-- ==== Sys2Proof/Word.lean ====
section
/-! DEFINITION. The word types of the block: the identifiers and counts that the spec gives as bits. -/

namespace Sys2Proof

/-- One byte of a frame, of an arm port message or of the configuration memory. -/
abbrev Byte := BitVec 8

/-- A case id, assigned by the gate (00 "Identities and ranges": 24-bit). -/
abbrev CaseId := BitVec 24

/-- A product code (00 "Identities and ranges": 32-bit). -/
abbrev ProductCode := BitVec 32

/-- A job id (00 "Identities and ranges": 16-bit). -/
abbrev JobId := BitVec 16

/-- A travel value: a 32-bit millimetre count that wraps (00 "Travel comparisons"). -/
abbrev TravelMm := BitVec 32

/-- A staging clock value: a 32-bit count of milliseconds (R121). -/
abbrev ClockMs := BitVec 32

/-- A 5-bit sender or station field (R61). -/
abbrev Station := BitVec 5

/-- A raw bridge count: a signed 24-bit reading (R150). -/
abbrev RawCount := BitVec 24

end Sys2Proof
end

