-- ==== Sys2Proof/Syntax.lean ====
section
/-! DEFINITION. The commands of the block, one constructor for each of the 61 rows of spec/opcode_table.json, with the operands that the rules give each frame, message or event (log 7). -/

namespace Sys2Proof

/-- The origin mark of an accepted frame (R65). `own` is a frame the part itself drove; `other` carries the sender field. -/
inductive Origin where
  | own
  | other (sender : Station)
  deriving DecidableEq, Repr

/-- The gripper state of a READY (R134). -/
inductive GripperState where
  | empty | holding
  deriving DecidableEq, Repr

/-- The disposition of a FAULT (R134). -/
inductive FaultDisposition where
  | held | atTarget | lost
  deriving DecidableEq, Repr

/-- What voided an attempt or a frame: the veto bit, the echo bit alone, a break, or (own attempts only) a clash (R64, R71). -/
inductive VoidCause where
  | veto | echoOnly | brk | clash
  deriving DecidableEq, Repr

/-- The payload fields of a CELL STATUS (R66 payload table, R171). -/
structure StatusFields where
  cellState : Byte
  job       : JobId
  lastSeq   : BitVec 16
  loadKg    : BitVec 16
  staged    : Byte
  flags     : Byte
  summary   : BitVec 24
  offset10  : BitVec 16
  wanted    : List ProductCode
  deriving DecidableEq, Repr

/-- A command of the block. Each constructor is one row of spec/opcode_table.json; its docstring names the row's rule. -/
inductive Instr where
  /-- POWER_ON_RESET (R175), with the five straps as read. -/
  | powerOnReset (straps : BitVec 5)
  /-- RESET_LINE (R175): release of the reset line, with the five straps as read. -/
  | resetLine (straps : BitVec 5)
  /-- RESET_LINE_ASSERTED (R175). -/
  | resetLineAsserted
  /-- CONFIGURATION_READ_END (R176, R177): the bytes the memory delivered (none: it did not answer) and the first scan (R149). -/
  | configurationReadEnd (memory : Option (List Byte)) (scan : List RawCount)
  /-- JOIN_TIMER_EXPIRY (R178). -/
  | joinTimerExpiry
  /-- PALLET_PRESENT_RISE (R153). -/
  | palletPresentRise
  /-- PALLET_PRESENT_FALL (R153, R17, R20). -/
  | palletPresentFall
  /-- FORWARD_COUNT (R104). -/
  | forwardCount
  /-- REVERSE_COUNT (R105). -/
  | reverseCount
  /-- ENCODER_SKIP (R103). -/
  | encoderSkip
  /-- SPEED_WINDOW_END (R107). -/
  | speedWindowEnd
  /-- LOCK_ACQUIRED (R108). -/
  | lockAcquired
  /-- ENTER_STOPPED (R110). -/
  | enterStopped
  /-- CASE_START (R116). -/
  | caseStart
  /-- LANE_EYE_CLEAR (R116). -/
  | laneEyeClear
  /-- PLATE_SAMPLE (R150), with the nine raw counts. -/
  | plateSample (scan : List RawCount)
  /-- PLATE_SETTLED (R152). -/
  | plateSettled
  /-- VERIFY_WINDOW_END (R157). -/
  | verifyWindowEnd
  /-- EVIDENCE_WINDOW_END (R160). -/
  | evidenceWindowEnd
  /-- DISTURBANCE_TIMING_EXPIRY (R163). -/
  | disturbanceTimingExpiry
  /-- DISTURBANCE_CLEARING_EXPIRY (R163). -/
  | disturbanceClearingExpiry
  /-- OVERLOAD_CLEARING_EXPIRY (R165). -/
  | overloadClearingExpiry
  /-- QUIET_TIMER_EXPIRY (R166). -/
  | quietTimerExpiry
  /-- COLLECT_TIMEOUT (R8). -/
  | collectTimeout
  /-- STALL_TIMEOUT (R14). -/
  | stallTimeout
  /-- DRAIN_COMPLETE (R16, R20). -/
  | drainComplete
  /-- JOB_CANCEL (R15), a frame of kind 0. -/
  | jobCancel (sender : Station) (job : JobId)
  /-- RELEASE (R96), the case form of kind 1. -/
  | release (origin : Origin) (caseId : CaseId) (reason : Byte)
  /-- RELEASE_JOB_FORM (R67), the job form of kind 1. -/
  | releaseJobForm (origin : Origin) (job : JobId) (reason : Byte)
  /-- CLAIM (R90), a frame of kind 2. -/
  | claim (origin : Origin) (caseId : CaseId) (lap : Byte)
  /-- CASE_SIGHT (R82), a frame of kind 3. -/
  | caseSight (sender : Station) (caseId : CaseId) (product : ProductCode) (mass length width height : BitVec 16) (lap : Byte) (age : BitVec 16)
  /-- ADOPT (R5), a frame of kind 4. -/
  | adopt (origin : Origin) (job : JobId)
  /-- JOB_OFFER (R3), a frame of kind 5. -/
  | jobOffer (sender : Station) (job : JobId) (lineCount footprint : Byte) (heightLimit loadLimit : BitVec 16)
  /-- JOB_LINE (R6), a frame of kind 6. -/
  | jobLine (sender : Station) (job : JobId) (line : Byte) (product : ProductCode) (ordered mass length width height : BitVec 16) (crushClass rank faceLock : Byte)
  /-- JOB_END (R67), a frame of kind 7. -/
  | jobEnd (origin : Origin) (job : JobId) (outcome : Byte) (placed loadKg : BitVec 16) (short : Byte)
  /-- SHORT_LINE (R67), a frame of kind 8. -/
  | shortLine (origin : Origin) (job : JobId) (line : Byte) (quantity : BitVec 16)
  /-- CELL_STATUS (R98, R174, R179), a frame of kind 9. -/
  | cellStatus (origin : Origin) (status : StatusFields)
  /-- REFUSED_FRAME (R67): an accepted frame with its kind, sender and payload length. -/
  | refusedFrame (kind : BitVec 4) (sender : Station) (length : BitVec 6)
  /-- DAMAGED_FRAME (R63, R64): the line's levels as the part read them from the start bit on (true is recessive). -/
  | damagedFrame (levels : List Bool)
  /-- VOIDED_FRAME (R64): another station's frame, good at the part, voided by some other receiver. -/
  | voidedFrame (how : VoidCause)
  /-- LINE_IDLE (R70). -/
  | lineIdle
  /-- LOST_ARBITRATION (R71). -/
  | lostArbitration
  /-- ATTEMPT_VOIDED (R71, R72). -/
  | attemptVoided (how : VoidCause)
  /-- READY (R136), with the gripper state. -/
  | ready (gripper : GripperState)
  /-- ACCEPT (R138), with its tag. -/
  | accept (tag : Byte)
  /-- DONE (R139), with its tag. -/
  | doneReport (tag : Byte)
  /-- FAULT (R141, R143), with its tag, disposition and fault number. -/
  | faultReport (tag : Byte) (disposition : FaultDisposition) (number : BitVec 16)
  /-- HOLD (R146). -/
  | hold
  /-- CLEAR_HOLD (R146). -/
  | clearHold
  /-- STATUS_REQUEST (R147). -/
  | statusRequest
  /-- MAP_ROW_REQUEST (R148), with its row. -/
  | mapRowRequest (row : Byte)
  /-- MALFORMED_MESSAGE (R134): a message as received: code, length byte, body and check. -/
  | malformedMessage (code length : Byte) (body : List Byte) (check : BitVec 16)
  /-- ACCEPT_TIMEOUT (R140). -/
  | acceptTimeout
  /-- DONE_TIMEOUT (R140). -/
  | doneTimeout
  /-- COMMAND_SENT (R137). -/
  | commandSent
  /-- STATUS_REPORT_SENT (R147, R169). -/
  | statusReportSent
  /-- MAP_ROW_REPORT_SENT (R148). -/
  | mapRowReportSent
  /-- PLANNING_PASS_START (R54). -/
  | planningPassStart
  /-- PLANNING_PASS_END (R55). -/
  | planningPassEnd
  /-- STATUS_TIMER_EXPIRY (R172). -/
  | statusTimerExpiry
  /-- HOLDOFF_EXPIRY (R173). -/
  | holdoffExpiry
  deriving DecidableEq, Repr

end Sys2Proof
end

