-- ==== Sys2Proof/Decode.lean ====
section
/-! DEFINITION. The table's decoder. No row of spec/opcode_table.json gives bits, so no word spells a command (log 36). The frames of the cell bus and the messages of the arm port are taken in by Machine/Operands.lean. -/

namespace Sys2Proof

/-- The command that a word of `nbits` bits spells by the bits of spec/opcode_table.json: none, since the table gives no row any. -/
def decodeTableWord (_nbits _w : Nat) : Option Instr := none

end Sys2Proof
end

