-- ==== Sys2Proof/Config.lean ====
section
/-! DEFINITION. What an implementation fixes: the event kinds and classes, the configuration values of R176 and the model's one free value. -/

namespace Sys2Proof

/-- The 24 event kinds of R167, in the order of their numbers 0 to 23. -/
inductive EventKind where
  | jobAdopted | jobEnded | jobAbandoned | divertMissed | strayCase | idClash | sightingDropped | caseLost
  | lockChanged | beltStopped | massMismatch | notLanded | unsettled | offCentre | slip | overload
  | plateDisturbed | palletLost | armFault | armTimeout | busTrouble | vetoMuted | duplicateStation | configDefaulted
  deriving DecidableEq, Repr

/-- The four event classes of R168, in the order of their configuration codes 0 to 3 (R176). -/
inductive EventClass where
  | off | count | deferred | prompt
  deriving DecidableEq, Repr

/-- The configuration values of R176, one field a parameter, in the unit the table gives.
`settleSteps` counts steps of 16 ms; limits named `Kg` are in kg and are multiplied by 1,000 where the rules use grams. -/
structure Params where
  bitRateCode     : Nat
  footprint       : Nat
  divertOffset    : Nat
  claimMargin     : Nat
  minimumGap      : Nat
  confirmTail     : Nat
  leadTime        : Nat
  stepN           : Nat
  stepP           : Nat
  stepR           : Nat
  heightLimit     : Nat
  loadLimitKg     : Nat
  stallTime       : Nat
  doneTimeout     : Nat
  supportTol      : Nat
  supportPct      : Nat
  zoneSlack       : Nat
  wx0             : Nat
  wy0             : Nat
  comThresholdKg  : Nat
  statusPeriod    : Nat
  gain            : Nat
  weights         : List Nat
  settleBand      : Nat
  settleSteps     : Nat
  massTol         : Nat
  comTol          : Nat
  disturbBand     : Nat
  slipDistance    : Nat
  slipWindow      : Nat
  channelLimitKg  : Nat
  quietTime       : Nat
  classes         : List EventClass
  deriving DecidableEq, Repr

/-- FREE VALUE (log 22, DESIGN CHOICE). R80 takes an unmeasured length from the case's line, or from the lowest-numbered
line with its product. Where no line of the build list has the product, the spec states no length, and this is it. -/
opaque Config.unstatedLength : ProductCode → Nat

end Sys2Proof
end

