-- ==== Sys2Proof/Machine/Params.lean ====
section
/-! DEFINITION. The configuration block of R176: the default values, the ranges, and reading the memory. Also the numbers of the event kinds (R167) and the fixed times (R176). -/

namespace Sys2Proof.Machine

/-- R1: a value outside its stated range is clamped to that range. -/
def clamp (lo hi x : Nat) : Nat := max lo (min hi x)

/-- Bytes read most significant byte first as one number (R61, R134, R176). -/
def bytesToNat (bs : List Byte) : Nat := bs.foldl (fun n b => n * 256 + b.toNat) 0

/-- The fixed times of R176, in ms: collect timer, accept timer, holdoff, verify window (and evidence window, R160), speed window (R107). -/
def collectTime : Nat := 3000
def acceptTime : Nat := 500
def holdoffTime : Nat := 100
def verifyTime : Nat := 2000
def speedWindowTime : Nat := 20

/-- R55: a pass ends within this many ms of its start. -/
def passTime : Nat := 20

end Sys2Proof.Machine

namespace Sys2Proof

/-- The number of an event kind (R167). -/
def EventKind.number : EventKind → Nat
  | .jobAdopted => 0 | .jobEnded => 1 | .jobAbandoned => 2 | .divertMissed => 3
  | .strayCase => 4 | .idClash => 5 | .sightingDropped => 6 | .caseLost => 7
  | .lockChanged => 8 | .beltStopped => 9 | .massMismatch => 10 | .notLanded => 11
  | .unsettled => 12 | .offCentre => 13 | .slip => 14 | .overload => 15
  | .plateDisturbed => 16 | .palletLost => 17 | .armFault => 18 | .armTimeout => 19
  | .busTrouble => 20 | .vetoMuted => 21 | .duplicateStation => 22 | .configDefaulted => 23

/-- The class of a configuration code (R176): a code of 4 or more becomes 3. -/
def EventClass.ofCode : Nat → EventClass
  | 0 => .off | 1 => .count | 2 => .deferred | _ => .prompt

/-- The default class table of R167, event 0 first. -/
def EventClass.defaults : List EventClass :=
  [.count, .count, .deferred, .deferred, .deferred, .deferred, .deferred, .prompt,
   .count, .deferred, .deferred, .prompt, .deferred, .deferred, .prompt, .prompt,
   .prompt, .prompt, .prompt, .prompt, .deferred, .deferred, .prompt, .deferred]

/-- The default configuration of R176. -/
def Params.default : Params where
  bitRateCode := 1
  footprint := 0
  divertOffset := 0
  claimMargin := 800
  minimumGap := 150
  confirmTail := 300
  leadTime := 150
  stepN := 1000
  stepP := 0
  stepR := 1
  heightLimit := 1800
  loadLimitKg := 900
  stallTime := 180
  doneTimeout := 20
  supportTol := 8
  supportPct := 75
  zoneSlack := 0
  wx0 := 250
  wy0 := 200
  comThresholdKg := 100
  statusPeriod := 1000
  gain := 1024
  weights := List.replicate 8 128
  settleBand := 100
  settleSteps := 15
  massTol := 3
  comTol := 40
  disturbBand := 1500
  slipDistance := 30
  slipWindow := 160
  channelLimitKg := 400
  quietTime := 5000
  classes := EventClass.defaults

/-- R176: a parameter whose bytes lie wholly within the parameter bytes taken is read and clamped to its range; otherwise
it takes its default. `off` and `n` are the place and the count of its bytes. -/
def Params.field (bs : List Byte) (off n lo hi dflt : Nat) : Nat :=
  if off + n ≤ bs.length then Machine.clamp lo hi (Machine.bytesToNat ((bs.drop off).take n)) else dflt

/-- R176: the parameters in the order of the table, from the parameter bytes taken. -/
def Params.ofBytes (bs : List Byte) : Params where
  bitRateCode := Params.field bs 0 1 0 2 1
  footprint := Params.field bs 1 1 0 2 0
  divertOffset := Params.field bs 2 3 0 655350 0
  claimMargin := Params.field bs 5 2 200 5000 800
  minimumGap := Params.field bs 7 2 0 1000 150
  confirmTail := Params.field bs 9 2 0 1000 300
  leadTime := Params.field bs 11 2 0 1000 150
  stepN := Params.field bs 13 2 0 4095 1000
  stepP := Params.field bs 15 1 0 3 0
  stepR := Params.field bs 16 1 0 15 1
  heightLimit := Params.field bs 17 2 200 2400 1800
  loadLimitKg := Params.field bs 19 2 50 2000 900
  stallTime := Params.field bs 21 2 10 600 180
  doneTimeout := Params.field bs 23 1 5 60 20
  supportTol := Params.field bs 24 1 0 50 8
  supportPct := Params.field bs 25 1 50 100 75
  zoneSlack := Params.field bs 26 1 0 3 0
  wx0 := Params.field bs 27 2 40 600 250
  wy0 := Params.field bs 29 2 40 600 200
  comThresholdKg := Params.field bs 31 2 0 2000 100
  statusPeriod := Params.field bs 33 2 250 5000 1000
  gain := Params.field bs 35 2 1 65535 1024
  weights := if 45 ≤ bs.length then ((bs.drop 37).take 8).map (fun b => b.toNat) else List.replicate 8 128
  settleBand := Params.field bs 45 2 10 1000 100
  settleSteps := Params.field bs 47 1 3 60 15
  massTol := Params.field bs 48 1 1 20 3
  comTol := Params.field bs 49 1 10 200 40
  disturbBand := Params.field bs 50 2 200 10000 1500
  slipDistance := Params.field bs 52 1 10 200 30
  slipWindow := Params.field bs 53 1 40 160 160
  channelLimitKg := Params.field bs 54 2 50 1000 400
  quietTime := Params.field bs 56 2 1000 60000 5000
  classes := if 82 ≤ bs.length then ((bs.drop 58).take 24).map (fun b => EventClass.ofCode b.toNat) else EventClass.defaults

/-- R176: the parameter bytes taken from the memory, none where it is absent or its marker is wrong. Bytes beyond the 82nd
are not read. A memory that delivers fewer bytes than its length byte says is read as far as it delivers (log 12). -/
def Params.bytesTaken : Option (List Byte) → Option (List Byte)
  | some (m0 :: m1 :: len :: rest) =>
    if m0 = 0xC7 ∧ m1 = 0x31 then some (rest.take (min len.toNat 82)) else none
  | _ => none

/-- R176: the configuration the read produced. -/
def Params.read (memory : Option (List Byte)) : Params :=
  match Params.bytesTaken memory with
  | some bs => Params.ofBytes bs
  | none => Params.default

/-- R176: whether the read raises CONFIG DEFAULTED (an absent or wrongly marked memory, or a length below 82). -/
def Params.defaulted (memory : Option (List Byte)) : Bool :=
  match Params.bytesTaken memory with
  | some bs => decide (bs.length < 82)
  | none => true

/-- The step numerator and divisor as read: a value of 0 is read as 1 (06 section 6.1). -/
def Params.readN (p : Params) : Nat := if p.stepN = 0 then 1 else p.stepN
def Params.readR (p : Params) : Nat := if p.stepR = 0 then 1 else p.stepR

/-- The travel step N · 2^P in units of 1/R µm (R104). -/
def Params.step (p : Params) : Nat := p.readN * 2 ^ p.stepP

/-- The settle time in ms (R176: steps of 16 ms). -/
def Params.settleTime (p : Params) : Nat := 16 * p.settleSteps

/-- The bit rate in kbit/s of the bit rate code (R176). -/
def Params.bitRate (p : Params) : Nat :=
  match p.bitRateCode with
  | 0 => 125
  | 1 => 250
  | _ => 500

end Sys2Proof
end

