-- ==== Sys2Proof/Machine/State.lean ====
section
/-! DEFINITION. The state of the block, block by block (00 "Block overview"), as plain data, and its value after reset. -/

namespace Sys2Proof.Machine

/-- No rule of the spec stops the part, so no command of the block faults: the type has no constructor (log 37). Safe. -/
inductive Fault where
  deriving DecidableEq, Repr

/-- The reasons a command has no meaning. -/
inductive Refusal where
  /-- The form that `exec` gives a row not modelled yet, by the row's mnemonic. Every row is modelled, so nothing raises it. Safe. -/
  | notModelled (mnemonic : String)
  deriving DecidableEq, Repr

/-! ### Start-up controller (R175 to R179) -/

/-- The start state (11). -/
inductive StartState where
  | starting | joining | idle | unnumbered
  deriving DecidableEq, Repr

/-- The start-up controller: start state, station number, configuration, lockout, join timer (ms left) and the held reset line. -/
structure StartCtl where
  state   : StartState
  station : Option Station
  cfg     : Params
  lockout : Bool
  join    : Option Nat
  held    : Bool
  deriving DecidableEq, Repr

/-! ### Bus controller (R61 to R78) -/

/-- The reasons of a RELEASE (R66 table), with codes 1 to 5. -/
inductive ReleaseReason where
  | returned | missed | cancelled | lost | abandoned
  deriving DecidableEq, Repr

/-- The payloads of the frames the part sends (R66 table). -/
inductive TxPayload where
  | release (caseId : CaseId) (reason : Byte)
  | releaseJob (job : JobId) (reason : Byte)
  | claim (caseId : CaseId) (lap : Byte)
  | adopt (job : JobId)
  | jobEnd (job : JobId) (outcome : Byte) (placed loadKg : BitVec 16) (short : Byte)
  | shortLine (job : JobId) (line : Byte) (quantity : BitVec 16)
  | status (fields : StatusFields)
  deriving DecidableEq, Repr

/-- A frame of the transmit queue (R68); `sending` is the state SENDING, else WAITING. -/
structure TxFrame where
  payload : TxPayload
  urgency : Nat
  sending : Bool
  vetoes  : Nat
  deriving DecidableEq, Repr

/-- An entry of the veto history (R74). -/
structure Seen where
  vetoed : Bool
  good   : Bool
  deriving DecidableEq, Repr

/-- The line mode (R77). -/
inductive LineMode where
  | off | listen | full
  deriving DecidableEq, Repr

/-- What the part last drove on the line in answer to a frame (R64). -/
inductive LineDrive where
  | recessive | vetoAndEcho | echo | brk
  deriving DecidableEq, Repr

/-- The bus controller. `history` is oldest first; `idle` is the line being idle as far as the part knows, and
`receiving` is R77's reception, which begins at the first idle found in line mode LISTEN (log 14). -/
structure Bus where
  queue         : List TxFrame
  pendingStatus : Option StatusFields
  history       : List Seen
  muted         : Bool
  refused       : Nat
  mode          : LineMode
  rate          : Option Nat
  idle          : Bool
  receiving     : Bool
  drive         : LineDrive
  deriving DecidableEq, Repr

/-! ### Claim engine (R79 to R101) -/

/-- The gate's figures of a case (R80): mass in g, lengths in mm, 0 is not measured. -/
structure GateFigures where
  mass   : Nat
  length : Nat
  width  : Nat
  height : Nat
  deriving DecidableEq, Repr

/-- The line of a case (R80, R120): absent, none (a surplus case), or the number of the line it is counted against. -/
inductive LineRef where
  | absent | surplus | counted (n : Nat)
  deriving DecidableEq, Repr

/-- The claim state of a sighting entry (R80, R81). -/
inductive ClaimState where
  | free | claiming | ours | theirs (claimant : Station) | diverting
  deriving DecidableEq, Repr

/-- An entry of the sighting table (R80). -/
structure Sighting where
  caseId  : CaseId
  product : ProductCode
  gate    : GateFigures
  lap     : Nat
  arrival : TravelMm
  state   : ClaimState
  queued  : Bool
  line    : LineRef
  deriving DecidableEq, Repr

/-- An entry of the peer table (R98). -/
structure Peer where
  heard        : Bool
  cellState    : Nat
  divertOffset : Nat
  starving     : Bool
  wanted       : List ProductCode
  age          : Nat
  deriving DecidableEq, Repr

/-- The claim engine. `peers` holds the entries of stations 1 to 30 in that order. -/
structure ClaimEngine where
  interest  : List ProductCode
  sightings : List Sighting
  peers     : List Peer
  backlog   : List (CaseId × ReleaseReason)
  foreign   : Nat
  deriving DecidableEq, Repr

/-! ### Job unit (R2 to R20) -/

/-- The status of a line (R9, R12). -/
inductive LineStatus where
  | lineOpen | lineDone | unplaceable
  deriving DecidableEq, Repr

/-- A line record of the build list (R6, R10). -/
structure LineRec where
  product    : ProductCode
  ordered    : Nat
  mass       : Nat
  length     : Nat
  width      : Nat
  height     : Nat
  crushClass : Nat
  rank       : Nat
  faceLock   : Bool
  claimed    : Nat
  placed     : Nat
  status     : LineStatus
  deriving DecidableEq, Repr

/-- The job states other than NONE, which is the absence of the record (R2). -/
inductive JobPhase where
  | collecting | active | closing | ended
  deriving DecidableEq, Repr

/-- The outcomes of a job (R2), with JOB END codes 0 to 3 (R66). -/
inductive JobOutcome where
  | complete | short | cancelled | aborted
  deriving DecidableEq, Repr

/-- The job record (R2). Timers hold the ms left; none is stopped. -/
structure JobRecord where
  job       : JobId
  lineCount : Nat
  footprint : Nat
  effHeight : Nat
  effLoad   : Nat
  phase     : JobPhase
  outcome   : Option JobOutcome
  stall     : Option Nat
  collect   : Option Nat
  deriving DecidableEq, Repr

/-- The bid states of a filled offer record (01 section 1.2). -/
inductive BidState where
  | queued | sending
  deriving DecidableEq, Repr

/-- The offer record when it is not EMPTY (01 section 1.2). -/
structure Offer where
  job         : JobId
  lineCount   : Nat
  footprint   : Nat
  heightLimit : Nat
  loadLimit   : Nat
  bid         : BidState
  cancelled   : Bool
  deriving DecidableEq, Repr

/-- The job unit. `lines` has 64 places, one a line number; `endReports` holds JOB END and SHORT LINE payloads (R19). -/
structure JobUnit where
  record     : Option JobRecord
  lines      : List (Option LineRec)
  offer      : Option Offer
  endReports : List TxPayload
  ignored    : Nat
  deriving DecidableEq, Repr

/-! ### Stack map (R21 to R36) -/

/-- A cell record (R22); a reserve of 65,535 is unlimited. -/
structure GridCell where
  top     : Nat
  rank    : Nat
  reserve : Nat
  mark    : Bool
  deriving DecidableEq, Repr

/-- A saved footprint cell of the provisional record (R27). -/
structure SavedCell where
  top      : Nat
  rank     : Nat
  reserve  : Nat
  supports : Bool
  deriving DecidableEq, Repr

/-- The provisional placement record (R27). `turned` is orientation 90. -/
structure Provisional where
  caseId     : CaseId
  line       : Nat
  col        : Nat
  row        : Nat
  turned     : Bool
  lc         : Nat
  wr         : Nat
  rest       : Nat
  h          : Nat
  m          : Nat
  crushClass : Nat
  rank       : Nat
  s          : Nat
  load       : Nat
  reserve    : Nat
  x          : Int
  y          : Int
  z          : Nat
  saved      : List SavedCell
  deriving DecidableEq, Repr

/-- The stack map. `cells` has 480 records; the cell of column c and row r is at r · columns + c. -/
structure StackMap where
  cells : List GridCell
  mTot  : Nat
  sx    : Int
  sy    : Int
  sz    : Nat
  count : Nat
  seq   : Nat
  prov  : Option Provisional
  deriving DecidableEq, Repr

/-! ### Staging unit (R120 to R133) -/

/-- The arm commands (R120, R135). -/
inductive ArmCommand where
  | place | setAside | ret
  deriving DecidableEq, Repr

/-- A case record (R120). -/
structure CaseRecord where
  caseId  : Option CaseId
  product : Option ProductCode
  gate    : GateFigures
  lap     : Option Nat
  line    : LineRef
  staged  : ClockMs
  mark    : Option ArmCommand
  deriving DecidableEq, Repr

/-- The disposition of a gripper case (R124). -/
inductive GripDisposition where
  | none | rePlan | ret
  deriving DecidableEq, Repr

/-- The gripper record when it holds a case (R124). `target` is the buffer position of a SET ASIDE. -/
structure Gripper where
  held        : CaseRecord
  command     : Option ArmCommand
  target      : Nat
  disposition : GripDisposition
  deriving DecidableEq, Repr

/-- The staging unit. `buffer` has four places, positions 1 to 4. -/
structure Staging where
  lane     : List CaseRecord
  buffer   : List (Option CaseRecord)
  gripper  : Option Gripper
  clock    : ClockMs
  overflow : Nat
  deriving DecidableEq, Repr

/-! ### Planner (R37 to R60) -/

/-- Where a case is held, as a command names it (R37). -/
inductive Source where
  | lane | buffer (b : Nat) | gripper
  deriving DecidableEq, Repr

/-- The planning figures of a case counted against a line (R37). -/
structure Figures where
  m          : Nat
  length     : Nat
  width      : Nat
  h          : Nat
  crushClass : Nat
  rank       : Nat
  faceLock   : Bool
  line       : Nat
  deriving DecidableEq, Repr

/-- A member of the staged set as a pass reads it (R47, R55): its source and record, its figures (none for a case with no
line), whether its line holds more than it ordered (R48), and whether its line is DONE or UNPLACEABLE (R51). -/
structure Member where
  source  : Source
  record  : CaseRecord
  figures : Option Figures
  excess  : Bool
  shut    : Bool
  deriving DecidableEq, Repr

/-- The pass in flight: its age in ms and the inputs of R55 (`won` is the sum of R51 over all the cases won). -/
structure Pass where
  age         : Nat
  members     : List Member
  phase       : Option JobPhase
  disposition : GripDisposition
  freeBuffer  : Option Nat
  effHeight   : Nat
  effLoad     : Nat
  lowest      : Nat
  won         : Nat
  prior       : Option CaseId
  deriving DecidableEq, Repr

/-- The target of a PLACE (R55). -/
structure PlaceTarget where
  col     : Nat
  row     : Nat
  turned  : Bool
  lc      : Nat
  wr      : Nat
  rest    : Nat
  figures : Figures
  deriving DecidableEq, Repr

/-- The action of a result (R55). -/
inductive Action where
  | place (target : PlaceTarget)
  | setAside (b : Nat)
  | ret
  deriving DecidableEq, Repr

/-- A result (R55); `released` marks a pre-planned result whose placement has committed as planned (R58). -/
structure PlanResult where
  action   : Action
  caseId   : Option CaseId
  source   : Source
  prior    : Option CaseId
  released : Bool
  deriving DecidableEq, Repr

/-- The hold reasons (R59). -/
inductive HoldReason where
  | operator | slip | disturbed | overload | armStopped
  deriving DecidableEq, Repr

/-- The hold-reason set (R59), one mark a reason. -/
structure Holds where
  operator   : Bool
  slip       : Bool
  disturbed  : Bool
  overload   : Bool
  armStopped : Bool
  deriving DecidableEq, Repr

/-- The planner. -/
structure Planner where
  flag   : Bool
  pass   : Option Pass
  result : Option PlanResult
  holds  : Holds
  deriving DecidableEq, Repr

/-! ### Travel unit (R102 to R111) -/

/-- The lock state (R107 to R110). -/
inductive LockState where
  | unlocked | locked | stopped
  deriving DecidableEq, Repr

/-- The travel unit. `windowLeft` is the ms left in the speed window. -/
structure TravelUnit where
  count      : TravelMm
  um         : Nat
  rem        : Nat
  window     : Int
  v          : Nat
  vHold      : Nat
  lock       : LockState
  lockRun    : Nat
  stopRun    : Nat
  windowLeft : Option Nat
  deriving DecidableEq, Repr

/-! ### Divert unit (R112 to R119) -/

/-- The phases of a schedule entry (R112). -/
inductive DivertPhase where
  | waiting | armed | fired | spent
  deriving DecidableEq, Repr

/-- An entry of the divert schedule (R112). -/
structure DivertEntry where
  caseId  : CaseId
  arrival : TravelMm
  belt    : Nat
  phase   : DivertPhase
  fire    : Option TravelMm
  deriving DecidableEq, Repr

/-! ### Arm port (R134 to R148) -/

/-- The port state (R135). -/
inductive PortState where
  | offline | ready | awaitAccept | busy | stopped
  deriving DecidableEq, Repr

/-- The progress of the outstanding command (R135). -/
inductive Progress where
  | sent | accepted | unknown | resolving
  deriving DecidableEq, Repr

/-- The outstanding-command record (R135). `line` is the line of the case, kept for its settlement (log 23). -/
structure Outstanding where
  action   : Action
  tag      : Byte
  caseId   : Option CaseId
  source   : Source
  line     : LineRef
  progress : Progress
  deriving DecidableEq, Repr

/-- A message of the part: a command with its bytes, or a report, composed when its sending begins (R137, R147, R148). -/
inductive ArmMessage where
  | command (tag : Byte) (bytes : List Byte)
  | statusReport
  | mapRow (row : Byte)
  deriving DecidableEq, Repr

/-- The arm port. `onLine` is the message on the line with the bytes being sent. -/
structure ArmPort where
  port        : PortState
  cmd         : Option Outstanding
  tag         : Byte
  acceptTimer : Option Nat
  doneTimer   : Option Nat
  gripper     : GripperState
  lastFault   : BitVec 16
  ready       : List ArmMessage
  onLine      : Option (ArmMessage × List Byte)
  mapRowHeld  : Option Byte
  malformed   : Nat
  unexpected  : Nat
  deriving DecidableEq, Repr

/-! ### Plate monitor (R149 to R166) -/

/-- The plate state (R153). -/
inductive PlateState where
  | absent | uncertain | taring | tared
  deriving DecidableEq, Repr

/-- The sampling mode (R166). -/
inductive SamplingMode where
  | active | watch | rest
  deriving DecidableEq, Repr

/-- The phase of a watch (R156). -/
inductive WatchPhase where
  | opened | settling
  deriving DecidableEq, Repr

/-- The watch record (R156). `line` is the line of the case, kept for a loss (log 23). -/
structure Watch where
  caseId   : CaseId
  line     : LineRef
  m        : Nat
  open0    : Int
  phase    : WatchPhase
  orphaned : Bool
  doneAt   : Option Nat
  deriving DecidableEq, Repr

/-- The evidence request (R160). `askedAt` is the time its window began, by the plate monitor's clock. -/
structure Evidence where
  caseId  : CaseId
  m       : Nat
  r0      : Int
  askedAt : Nat
  deriving DecidableEq, Repr

/-- A measured centre with its sample's time (R161). -/
structure Centre where
  time : Nat
  x    : Int
  y    : Int
  deriving DecidableEq, Repr

/-- The plate monitor. Timers hold the ms left; timings hold the time they began, by the plate monitor's clock. -/
structure Plate where
  f             : List Int
  b             : List Int
  masses        : List Int
  load          : Int
  state         : PlateState
  taredAt       : Nat
  clock         : Nat
  sampleLeft    : Option Nat
  ref           : Int
  runStart      : Nat
  restart       : Bool
  lastSettled   : Int
  watch         : Option Watch
  verifyLeft    : Option Nat
  evidence      : Option Evidence
  evidenceLeft  : Option Nat
  xm            : Int
  ym            : Int
  history       : List Centre
  disturbed     : Bool
  disturbFrom   : Option Nat
  clearFrom     : Option Nat
  overload      : Bool
  overClearFrom : Option Nat
  mode          : SamplingMode
  quietLeft     : Option Nat
  quietRef      : Int
  deriving DecidableEq, Repr

/-! ### Event unit (R167 to R174) -/

/-- The event unit. Bit n of `latched` is the latched flag of event n. -/
structure EventUnit where
  latched  : BitVec 24
  counters : List Nat
  status   : Option Nat
  holdoff  : Option Nat
  prompt   : Bool
  deriving DecidableEq, Repr

/-! ### Pins -/

/-- The input levels. `encoder` is the place in the cycle of R103: 0 both low, 1 A high, 2 both high, 3 B high. -/
structure Pins where
  palletPresent : Bool
  laneBlocked   : Bool
  encoder       : BitVec 2
  bridge        : List RawCount
  deriving DecidableEq, Repr

/-- The state of the block, and the queue of the commands that wait. -/
structure State where
  start   : StartCtl
  bus     : Bus
  claim   : ClaimEngine
  job     : JobUnit
  map     : StackMap
  planner : Planner
  travel  : TravelUnit
  divert  : List DivertEntry
  staging : Staging
  arm     : ArmPort
  plate   : Plate
  events  : EventUnit
  pins    : Pins
  pending : List Instr
  deriving DecidableEq, Repr

/-! ### Reset values -/

/-- R22: the empty values of a cell record, bare deck. -/
def GridCell.empty : GridCell := { top := 0, rank := 15, reserve := 65535, mark := false }

/-- R34: the map with every cell empty, every figure 0 and no provisional record. -/
def StackMap.cleared : StackMap :=
  { cells := List.replicate 480 GridCell.empty, mTot := 0, sx := 0, sy := 0, sz := 0, count := 0, seq := 0, prov := none }

/-- R98: a peer entry after reset. -/
def Peer.unheard : Peer := { heard := false, cellState := 0, divertOffset := 0, starving := false, wanted := [], age := 3 }

def StartCtl.reset : StartCtl :=
  { state := .starting, station := none, cfg := Params.default, lockout := false, join := none, held := false }

def Bus.reset : Bus :=
  { queue := [], pendingStatus := none, history := [], muted := false, refused := 0, mode := .off, rate := none, idle := false,
    receiving := false, drive := .recessive }

def ClaimEngine.reset : ClaimEngine :=
  { interest := [], sightings := [], peers := List.replicate 30 Peer.unheard, backlog := [], foreign := 0 }

def JobUnit.reset : JobUnit :=
  { record := none, lines := List.replicate 64 none, offer := none, endReports := [], ignored := 0 }

def Holds.none : Holds := { operator := false, slip := false, disturbed := false, overload := false, armStopped := false }

def Planner.reset : Planner := { flag := false, pass := none, result := none, holds := Holds.none }

def TravelUnit.reset : TravelUnit :=
  { count := 0, um := 0, rem := 0, window := 0, v := 0, vHold := 0, lock := .unlocked, lockRun := 0, stopRun := 0, windowLeft := none }

def Staging.reset : Staging :=
  { lane := [], buffer := [none, none, none, none], gripper := none, clock := 0, overflow := 0 }

def ArmPort.reset : ArmPort :=
  { port := .offline, cmd := none, tag := 0, acceptTimer := none, doneTimer := none, gripper := .empty, lastFault := 0,
    ready := [], onLine := none, mapRowHeld := none, malformed := 0, unexpected := 0 }

def Plate.reset : Plate :=
  { f := List.replicate 9 0, b := List.replicate 9 0, masses := List.replicate 8 0, load := 0, state := .absent, taredAt := 0,
    clock := 0, sampleLeft := none, ref := 0, runStart := 0, restart := true, lastSettled := 0, watch := none,
    verifyLeft := none, evidence := none, evidenceLeft := none, xm := 0, ym := 0, history := [], disturbed := false,
    disturbFrom := none, clearFrom := none, overload := false, overClearFrom := none, mode := .rest, quietLeft := none,
    quietRef := 0 }

def EventUnit.reset : EventUnit :=
  { latched := 0, counters := List.replicate 24 0, status := none, holdoff := none, prompt := false }

def Pins.reset : Pins :=
  { palletPresent := false, laneBlocked := false, encoder := 0, bridge := List.replicate 9 0 }

/-- The machine right after reset (R175 and the reset rules of every chapter), before the straps are read (log 8). -/
def State.reset : State :=
  { start := StartCtl.reset, bus := Bus.reset, claim := ClaimEngine.reset, job := JobUnit.reset, map := StackMap.cleared,
    planner := Planner.reset, travel := TravelUnit.reset, divert := [], staging := Staging.reset, arm := ArmPort.reset,
    plate := Plate.reset, events := EventUnit.reset, pins := Pins.reset, pending := [] }

end Sys2Proof.Machine
end

