-- ==== Sys2Proof/Machine/Ops.lean ====
section
/-! DEFINITION. The plain operations that every block uses: saturating counts, travel comparisons (R106), ordered lists, and
the named updates of the state. -/

namespace Sys2Proof.Machine

/-! ### Numbers -/

/-- Division rounded up. -/
def ceilDiv (a b : Nat) : Nat := (a + b - 1) / b

/-- An 8-bit count that increases by one and saturates at 255. -/
def sat8 (n : Nat) : Nat := min 255 (n + 1)

/-- The distance |a − b|. -/
def absDiff (a b : Int) : Int := ((a - b).natAbs : Int)

/-- R106: A − B modulo 2^32, read as a signed 32-bit number. -/
def travelDiff (a b : TravelMm) : Int := (a - b).toInt

/-- R106: A is past B. -/
def isPast (a b : TravelMm) : Bool := decide (0 < travelDiff a b)

/-- R106: A lies within `d` mm before B, or is past it. -/
def reachedBefore (a b : TravelMm) (d : Nat) : Bool := decide (travelDiff b a ≤ (d : Int))

/-- A travel value `d` mm further on. -/
def onward (t : TravelMm) (d : Nat) : TravelMm := t + BitVec.ofNat 32 d

/-! ### The unlimited arithmetic of reserves (00 "Unlimited", R23) -/

/-- The value that means unlimited. -/
def unlimited : Nat := 65535

/-- A reserve less a load: unlimited stays unlimited, a finite reserve saturates at 0 (R23). -/
def reduceReserve (reserve load : Nat) : Nat := if reserve = unlimited then unlimited else reserve - load

/-- R23: the rating of a crush class, in g a cell. -/
def rating (crushClass : Nat) : Nat :=
  match crushClass with
  | 0 => unlimited
  | 1 => 20000
  | 2 => 10000
  | 3 => 6000
  | 4 => 3000
  | 5 => 1500
  | 6 => 500
  | _ => 0

/-! ### Lists -/

/-- Put `x` before the first element that `x` comes before, after every other. -/
def insertBy {α : Type} (before : α → α → Bool) (x : α) : List α → List α
  | [] => [x]
  | y :: ys => if before x y then x :: y :: ys else y :: insertBy before x ys

/-- A stable sort: equal elements keep their order. -/
def sortBy {α : Type} (before : α → α → Bool) (xs : List α) : List α :=
  xs.foldl (fun acc x => insertBy before x acc) []

/-- The elements in order, each kept where it first stands. -/
def distinct {α : Type} [DecidableEq α] (xs : List α) : List α :=
  xs.foldl (fun acc x => if x ∈ acc then acc else acc ++ [x]) []

/-- The last `n` elements. -/
def lastN {α : Type} (n : Nat) (xs : List α) : List α := xs.drop (xs.length - n)

/-- Set the bit of a 24-bit word. -/
def setBit (w : BitVec 24) (n : Nat) : BitVec 24 := w ||| BitVec.twoPow 24 n

/-! ### Timers (00 "Timers") -/

/-- A timer after `d` ms: a running timer runs down to 0, a stopped one stays stopped. -/
def runDown (d : Nat) (t : Option Nat) : Option Nat := t.map (fun left => left - d)

/-! ### Named updates of the state, one a block -/

def State.setStart (s : State) (x : StartCtl) : State := { s with start := x }
def State.setBus (s : State) (x : Bus) : State := { s with bus := x }
def State.setClaim (s : State) (x : ClaimEngine) : State := { s with claim := x }
def State.setJob (s : State) (x : JobUnit) : State := { s with job := x }
def State.setMap (s : State) (x : StackMap) : State := { s with map := x }
def State.setPlanner (s : State) (x : Planner) : State := { s with planner := x }
def State.setTravel (s : State) (x : TravelUnit) : State := { s with travel := x }
def State.setDivert (s : State) (x : List DivertEntry) : State := { s with divert := x }
def State.setStaging (s : State) (x : Staging) : State := { s with staging := x }
def State.setArm (s : State) (x : ArmPort) : State := { s with arm := x }
def State.setPlate (s : State) (x : Plate) : State := { s with plate := x }
def State.setEvents (s : State) (x : EventUnit) : State := { s with events := x }
def State.setPins (s : State) (x : Pins) : State := { s with pins := x }
def State.setPending (s : State) (x : List Instr) : State := { s with pending := x }

/-- Every command runs to a next state: the outcome of a command whose effect is `s`. -/
def goes (s : State) : Host.Outcome State Fault Refusal := .next s

end Sys2Proof.Machine
end

