-- ==== Sys2Proof/Machine/Operands.lean ====
section
/-! DEFINITION. How frames and messages are laid out and taken in: the cell bus frame with its fill bits and check (R61, R63),
the payload table (R66), and the arm port messages (R134). These give the operands of the commands their bits. -/

namespace Sys2Proof.Machine

/-! ### Bits, bytes and the check -/

/-- `w` bits of `n`, most significant first. -/
def natBits (w n : Nat) : List Bool := (List.range w).map (fun i => n.testBit (w - 1 - i))

/-- Bits read most significant first. -/
def bitsToNat (bs : List Bool) : Nat := bs.foldl (fun n b => n * 2 + b.toNat) 0

/-- The bits of bytes, in the order sent. -/
def bytesBits (bs : List Byte) : List Bool := bs.flatMap (fun b => natBits 8 b.toNat)

/-- The bytes of bits, eight at a time, `n` of them. -/
def bitsBytes : Nat → List Bool → List Byte
  | 0, _ => []
  | n + 1, bs => BitVec.ofNat 8 (bitsToNat (bs.take 8)) :: bitsBytes n (bs.drop 8)

/-- One bit through the check register, generator 0x1021 (R63, R134). -/
def checkStep (c : BitVec 16) (b : Bool) : BitVec 16 := if c.msb = b then c <<< 1 else (c <<< 1) ^^^ 0x1021

/-- The check over bits: the register starts at 0xFFFF and the result is not inverted (R63, R134). -/
def checkOf (bs : List Bool) : BitVec 16 := bs.foldl checkStep 0xFFFF

def be16 (a b : Byte) : BitVec 16 := a ++ b
def be24 (a b c : Byte) : BitVec 24 := a ++ b ++ c
def be32 (a b c d : Byte) : BitVec 32 := a ++ b ++ c ++ d

/-- Byte `i` of a word, byte 0 the least significant. -/
def byteOf {w : Nat} (x : BitVec w) (i : Nat) : Byte := x.extractLsb' (8 * i) 8

def bytes16 (x : BitVec 16) : List Byte := [byteOf x 1, byteOf x 0]
def bytes24 (x : BitVec 24) : List Byte := [byteOf x 2, byteOf x 1, byteOf x 0]
def bytes32 (x : BitVec 32) : List Byte := [byteOf x 3, byteOf x 2, byteOf x 1, byteOf x 0]

/-- A number in a 1-byte or 2-byte field, clamped to the field (R1). -/
def field8 (n : Nat) : Byte := BitVec.ofNat 8 (min n 255)
def field16 (n : Nat) : BitVec 16 := BitVec.ofNat 16 (min n 65535)

/-! ### The cell bus frame (R61, R63) -/

/-- A frame's fields (R61). -/
structure BusFrame where
  kind    : BitVec 4
  urgency : BitVec 7
  sender  : Station
  payload : List Byte
  deriving DecidableEq, Repr

/-- R61: the arbitration field read as one number. -/
def BusFrame.field (f : BusFrame) : Nat := f.kind.toNat * 4096 + f.urgency.toNat * 32 + f.sender.toNat

/-- The bits the check covers: arbitration field, length and payload (R63). -/
def BusFrame.covered (f : BusFrame) : List Bool :=
  natBits 16 f.field ++ natBits 6 f.payload.length ++ bytesBits f.payload

/-- The frame before fill bits: start, arbitration field, length, payload and check (R61); true is recessive. -/
def BusFrame.logical (f : BusFrame) : List Bool :=
  false :: f.covered ++ natBits 16 (checkOf f.covered).toNat

/-- R61: after every run of five equal levels comes one fill bit of the other level (log 17). `run` equal levels, the last
of them `last`, have gone before. -/
def stuff (last : Bool) (run : Nat) : List Bool → List Bool
  | [] => []
  | b :: bs =>
    let run' := if run ≠ 0 ∧ b = last then run + 1 else 1
    if run' = 5 then b :: (!b) :: stuff (!b) 1 bs else b :: stuff b run' bs

/-- The levels the part puts on the line for a frame, from the start bit to the end of the frame check. -/
def BusFrame.levels (f : BusFrame) : List Bool := stuff true 0 f.logical

/-- The result of removing fill bits: the bits wanted, a sixth equal level after `taken` bits, or too few levels. -/
inductive Unstuffed where
  | got (bits : List Bool) (last : Bool) (run : Nat) (rest : List Bool)
  | sixth (taken : Nat)
  | short
  deriving DecidableEq, Repr

/-- One more bit in front of what the rest gave. -/
def Unstuffed.cons (b : Bool) : Unstuffed → Unstuffed
  | .got bits last run rest => .got (b :: bits) last run rest
  | .sixth taken => .sixth (taken + 1)
  | .short => .short

/-- Take `n` bits from the levels, removing fill bits (R61). -/
def unstuff (n : Nat) (last : Bool) (run : Nat) : List Bool → Unstuffed
  | [] => if n = 0 then .got [] last run [] else .short
  | b :: bs =>
    if n = 0 then .got [] last run (b :: bs)
    else if run = 5 then
      if b = last then .sixth 0 else unstuff n b 1 bs
    else Unstuffed.cons b (unstuff (n - 1) b (if run ≠ 0 ∧ b = last then run + 1 else 1) bs)

/-- What a receiver makes of the levels (R63). A missing fill bit may fall inside the arbitration field or after it. -/
inductive Reception where
  | good (f : BusFrame)
  | badCheck
  | badLength
  | missingFill (inArbitration : Bool)
  | incomplete
  deriving DecidableEq, Repr

/-- R63: take in a frame from its levels, the start bit first. -/
def takeIn (levels : List Bool) : Reception :=
  match unstuff 23 true 0 levels with
  | .short => .incomplete
  | .sixth taken => .missingFill (decide (taken < 17))
  | .got head last run rest =>
    let length := bitsToNat (head.drop 17)
    if 32 < length then .badLength
    else
      match unstuff (8 * length + 16) last run rest with
      | .short => .incomplete
      | .sixth _ => .missingFill false
      | .got body _ _ _ =>
        let covered := head.drop 1 ++ body.take (8 * length)
        if (checkOf covered).toNat = bitsToNat (body.drop (8 * length)) then
          let field := bitsToNat ((head.drop 1).take 16)
          .good { kind := BitVec.ofNat 4 (field / 4096), urgency := BitVec.ofNat 7 (field / 32),
                  sender := BitVec.ofNat 5 field, payload := bitsBytes length body }
        else .badCheck

/-! ### Frame kinds and payloads (R66) -/

/-- R67: whether a payload length is one given for the kind. -/
def lengthAllowed (kind length : Nat) : Bool :=
  match kind with
  | 0 => length == 2
  | 1 => length == 3 || length == 4
  | 2 => length == 4
  | 3 => length == 18
  | 4 => length == 2
  | 5 => length == 8
  | 6 => length == 20
  | 7 => length == 8
  | 8 => length == 5
  | 9 => length == 14 || length == 18 || length == 22 || length == 26
  | _ => false

/-- R67: whether an accepted frame is refused. -/
def frameRefused (kind : BitVec 4) (sender : Station) (length : Nat) : Bool :=
  decide (10 ≤ kind.toNat) || !lengthAllowed kind.toNat length || sender == 0 || sender == 31

/-- The product codes of a CELL STATUS payload, four bytes each. -/
def productsOf : List Byte → List ProductCode
  | a :: b :: c :: d :: rest => be32 a b c d :: productsOf rest
  | _ => []

/-- The command that an accepted frame is (R66, R67), by kind and payload. `origin` is its origin mark (R65). -/
def BusFrame.command (f : BusFrame) (origin : Origin) : Instr :=
  let refused := Instr.refusedFrame f.kind f.sender (BitVec.ofNat 6 f.payload.length)
  if frameRefused f.kind f.sender f.payload.length then refused
  else
    match f.kind.toNat, f.payload with
    | 0, [a, b] => .jobCancel f.sender (be16 a b)
    | 1, [a, b, c, r] => .release origin (be24 a b c) r
    | 1, [a, b, r] => .releaseJobForm origin (be16 a b) r
    | 2, [a, b, c, lap] => .claim origin (be24 a b c) lap
    | 3, [a, b, c, p3, p2, p1, p0, m1, m0, l1, l0, w1, w0, h1, h0, lap, g1, g0] =>
      .caseSight f.sender (be24 a b c) (be32 p3 p2 p1 p0) (be16 m1 m0) (be16 l1 l0) (be16 w1 w0) (be16 h1 h0) lap (be16 g1 g0)
    | 4, [a, b] => .adopt origin (be16 a b)
    | 5, [a, b, n, fp, h1, h0, l1, l0] => .jobOffer f.sender (be16 a b) n fp (be16 h1 h0) (be16 l1 l0)
    | 6, [a, b, n, p3, p2, p1, p0, o1, o0, m1, m0, l1, l0, w1, w0, h1, h0, k, q, fl] =>
      .jobLine f.sender (be16 a b) n (be32 p3 p2 p1 p0) (be16 o1 o0) (be16 m1 m0) (be16 l1 l0) (be16 w1 w0) (be16 h1 h0) k q fl
    | 7, [a, b, o, p1, p0, l1, l0, n] => .jobEnd origin (be16 a b) o (be16 p1 p0) (be16 l1 l0) n
    | 8, [a, b, n, q1, q0] => .shortLine origin (be16 a b) n (be16 q1 q0)
    | 9, c :: a :: b :: s1 :: s0 :: l1 :: l0 :: st :: fl :: e2 :: e1 :: e0 :: d1 :: d0 :: wanted =>
      .cellStatus origin
        { cellState := c, job := be16 a b, lastSeq := be16 s1 s0, loadKg := be16 l1 l0, staged := st, flags := fl,
          summary := be24 e2 e1 e0, offset10 := be16 d1 d0, wanted := productsOf wanted }
    | _, _ => refused

/-- The kind of a payload (R66). -/
def TxPayload.kind : TxPayload → Nat
  | .release _ _ => 1
  | .releaseJob _ _ => 1
  | .claim _ _ => 2
  | .adopt _ => 4
  | .jobEnd _ _ _ _ _ => 7
  | .shortLine _ _ _ => 8
  | .status _ => 9

/-- The payload bytes of a frame the part sends (R66), most significant byte first in every field. -/
def TxPayload.bytes : TxPayload → List Byte
  | .release c r => bytes24 c ++ [r]
  | .releaseJob j r => bytes16 j ++ [r]
  | .claim c lap => bytes24 c ++ [lap]
  | .adopt j => bytes16 j
  | .jobEnd j o p l n => bytes16 j ++ [o] ++ bytes16 p ++ bytes16 l ++ [n]
  | .shortLine j n q => bytes16 j ++ [n] ++ bytes16 q
  | .status f =>
    [f.cellState] ++ bytes16 f.job ++ bytes16 f.lastSeq ++ bytes16 f.loadKg ++ [f.staged, f.flags] ++ bytes24 f.summary ++
      bytes16 f.offset10 ++ f.wanted.flatMap bytes32

/-- The command by which an own frame of this payload is heard (R65, R66). -/
def TxPayload.heardAs : TxPayload → Instr
  | .release c r => .release .own c r
  | .releaseJob j r => .releaseJobForm .own j r
  | .claim c lap => .claim .own c lap
  | .adopt j => .adopt .own j
  | .jobEnd j o p l n => .jobEnd .own j o p l n
  | .shortLine j n q => .shortLine .own j n q
  | .status f => .cellStatus .own f

/-- The bus frame of a queued frame, sent by station `own` (R62, R68). -/
def TxFrame.busFrame (f : TxFrame) (own : Station) : BusFrame :=
  { kind := BitVec.ofNat 4 f.payload.kind, urgency := BitVec.ofNat 7 f.urgency, sender := own, payload := f.payload.bytes }

/-! ### Codes of the payload table (R66) -/

def ReleaseReason.code : ReleaseReason → Byte
  | .returned => 1 | .missed => 2 | .cancelled => 3 | .lost => 4 | .abandoned => 5

def JobOutcome.code : JobOutcome → Byte
  | .complete => 0 | .short => 1 | .cancelled => 2 | .aborted => 3

/-! ### The arm port messages (R134) -/

/-- R134: the check of an arm port message, over code, length and body. DEDUCED from the bus's check of R63, which has the same
generator and initial value (log 48): each byte's bits enter most significant first, and the result is not inverted. -/
def armCheck (code length : Byte) (body : List Byte) : BitVec 16 := checkOf (bytesBits (code :: length :: body))

/-- A message as sent: sync byte, code, body length, body and check (R134). -/
def armFrame (code : Byte) (body : List Byte) : List Byte :=
  let length := field8 body.length
  [0xA5, code, length] ++ body ++ bytes16 (armCheck code length body)

/-- The command that a message from the robot controller is, none where it is malformed (R134). -/
def armTakeIn (code length : Byte) (body : List Byte) (check : BitVec 16) : Option Instr :=
  if check ≠ armCheck code length body ∨ body.length ≠ length.toNat then none
  else
    match code.toNat, body with
    | 0x01, [g] => if g = 0 then some (.ready .empty) else if g = 1 then some (.ready .holding) else none
    | 0x02, [tag] => some (.accept tag)
    | 0x03, [tag] => some (.doneReport tag)
    | 0x04, [tag, d, n1, n0] =>
      if d = 0 then some (.faultReport tag .held (be16 n1 n0))
      else if d = 1 then some (.faultReport tag .atTarget (be16 n1 n0))
      else if d = 2 then some (.faultReport tag .lost (be16 n1 n0))
      else none
    | 0x05, [] => some .hold
    | 0x06, [] => some .clearHold
    | 0x08, [] => some .statusRequest
    | 0x09, [row] => some (.mapRowRequest row)
    | _, _ => none

/-- R134: a message is malformed. -/
def armMalformed (code length : Byte) (body : List Byte) (check : BitVec 16) : Bool :=
  (armTakeIn code length body check).isNone

/-- The source code of R134. -/
def Source.code : Source → Byte
  | .lane => 0
  | .buffer b => field8 b
  | .gripper => 5

/-- The case id field of a command: 0 for a stray (R134). -/
def idField : Option CaseId → CaseId
  | some c => c
  | none => 0

/-- The bytes of a command (R134, R137). -/
def commandBytes (a : Action) (tag : Byte) (caseId : Option CaseId) (source : Source) : List Byte :=
  match a with
  | .place t =>
    armFrame 0x10 ([tag, source.code] ++ bytes24 (idField caseId) ++ bytes16 (field16 (t.col * 50)) ++ bytes16 (field16 (t.row * 50)) ++
      bytes16 (field16 t.rest) ++ [if t.turned then 1 else 0, field8 t.lc, field8 t.wr])
  | .setAside b => armFrame 0x11 ([tag] ++ bytes24 (idField caseId) ++ [field8 b])
  | .ret => armFrame 0x12 ([tag, source.code, if caseId.isNone then 1 else 0] ++ bytes24 (idField caseId))

end Sys2Proof.Machine
end

