-- ==== Sys2Proof/Machine/Flags.lean ====
section
/-! DEFINITION. What the blocks read of each other, and every output and status flag formed from the state: the outputs
(R18, R115, R169), the cell state (R170), STARVING (R99), the wanted list (R100), the CELL STATUS and STATUS REPORT contents
(R147, R171) and the standing and committed figures of the stack map (R25, R26). -/

namespace Sys2Proof.Machine

/-! ### Reads of the job unit -/

def State.phase (s : State) : Option JobPhase := s.job.record.map (fun r => r.phase)

def State.active (s : State) : Bool := decide (s.phase = some .active)

/-- The line record of a line number, if the build list holds one. -/
def State.lineAt (s : State) (n : Nat) : Option LineRec := s.job.lines.getD n none

/-- The lines held, each with its number, in ascending order. -/
def State.heldLines (s : State) : List (Nat × LineRec) :=
  s.job.lines.zipIdx.filterMap (fun p => p.1.map (fun l => (p.2, l)))

/-- Ordered − placed − claimed (R10). -/
def LineRec.room (l : LineRec) : Nat := l.ordered - l.placed - l.claimed

/-- A line that can still take a case: status OPEN and room (R10, R79). -/
def LineRec.canTake (l : LineRec) : Bool := decide (l.status = .lineOpen ∧ 0 < l.room)

/-- The lowest-numbered line of the product that can still take a case (R10, R87). -/
def State.candidateLine (s : State) (p : ProductCode) : Option (Nat × LineRec) :=
  s.heldLines.find? (fun nl => decide (nl.2.product = p) && nl.2.canTake)

/-- The lowest-numbered line of the product, whatever its status (R80). -/
def State.firstLine (s : State) (p : ProductCode) : Option (Nat × LineRec) :=
  s.heldLines.find? (fun nl => decide (nl.2.product = p))

/-! ### The grid in use (R21) -/

/-- R21: the footprint code in use. -/
def State.codeInUse (s : State) : Nat :=
  match s.job.record with
  | some r => r.footprint
  | none => s.start.cfg.footprint

def gridColumns (code : Nat) : Nat := if code = 0 ∨ code = 1 then 24 else 16

def gridRows (code : Nat) : Nat :=
  match code with
  | 0 => 20
  | 1 => 16
  | _ => 12

def palletLength (code : Nat) : Nat := gridColumns code * 50

def palletWidth (code : Nat) : Nat := gridRows code * 50

/-- The cell records of the grid in use. -/
def State.gridCells (s : State) : List GridCell :=
  s.map.cells.take (gridColumns s.codeInUse * gridRows s.codeInUse)

/-- R26: the lowest top height over the grid in use. -/
def State.lowestTop (s : State) : Nat :=
  match s.gridCells with
  | [] => 0
  | c :: cs => cs.foldl (fun m x => min m x.top) c.top

/-! ### Figures of the stack map (R25, R26) -/

/-- A mass, its moments. -/
structure MassFigures where
  m  : Nat
  sx : Int
  sy : Int
  sz : Nat
  deriving DecidableEq, Repr

/-- The centre of mass: X and Y truncate toward zero, Z is a floor, all 0 while the mass is 0 (R25). -/
def MassFigures.x (g : MassFigures) : Int := if g.m = 0 then 0 else g.sx.tdiv g.m
def MassFigures.y (g : MassFigures) : Int := if g.m = 0 then 0 else g.sy.tdiv g.m
def MassFigures.z (g : MassFigures) : Nat := if g.m = 0 then 0 else g.sz / g.m

/-- The figures with one more mass at a centroid. -/
def MassFigures.plus (g : MassFigures) (m : Nat) (x y : Int) (z : Nat) : MassFigures :=
  { m := g.m + m, sx := g.sx + m * x, sy := g.sy + m * y, sz := g.sz + m * z }

/-- R24: the committed figures. -/
def StackMap.committed (mp : StackMap) : MassFigures := { m := mp.mTot, sx := mp.sx, sy := mp.sy, sz := mp.sz }

/-- R26: the standing figures. -/
def StackMap.standing (mp : StackMap) : MassFigures :=
  match mp.prov with
  | none => mp.committed
  | some p => mp.committed.plus p.m p.x p.y p.z

/-- R25: the centroid of a footprint rectangle, on the pallet of a footprint code. -/
def centroidX (code c lc : Nat) : Int := (c * 50 : Int) + (lc * 50 / 2 : Nat) - (palletLength code / 2 : Nat)
def centroidY (code r wr : Nat) : Int := (r * 50 : Int) + (wr * 50 / 2 : Nat) - (palletWidth code / 2 : Nat)
def centroidZ (rest h : Nat) : Nat := rest + h / 2

/-- The load in kg of CELL STATUS, STATUS REPORT and JOB END: M_tot / 1,000 in a 2-byte field (R24, R171; log 29). -/
def StackMap.loadKg (mp : StackMap) : Nat := min 65535 (mp.mTot / 1000)

/-! ### Reads of staging -/

def State.laneCount (s : State) : Nat := s.staging.lane.length

/-- R124: the staged count. -/
def State.stagedCount (s : State) : Nat :=
  s.staging.lane.length + (s.staging.buffer.filter (fun b => b.isSome)).length + (if s.staging.gripper.isSome then 1 else 0)

/-- R114: the lane occupancy. -/
def State.occupancy (s : State) : Nat :=
  s.laneCount + (s.divert.filter (fun e => decide (e.phase = .fired ∨ e.phase = .spent) && e.fire.isSome)).length

/-- The gripper case awaiting disposition (R124). -/
def Gripper.awaiting (g : Gripper) : Bool := decide (g.command = none ∧ g.disposition ≠ .none)

/-- The records held in staging. -/
def State.stagedRecords (s : State) : List CaseRecord :=
  s.staging.lane ++ s.staging.buffer.filterMap id ++ (s.staging.gripper.map (fun g => g.held)).toList

/-- R127: whether a case id is held in the lane, the buffer table or the gripper record. -/
def State.holdsCase (s : State) (c : CaseId) : Bool := s.stagedRecords.any (fun r => decide (r.caseId = some c))

/-- R48: the number of staged cases counted against a line. -/
def State.stagedForLine (s : State) (n : Nat) : Nat :=
  (s.stagedRecords.filter (fun r => decide (r.line = .counted n))).length

/-! ### Cases in transit and masses won (R51) -/

/-- R81: OURS or DIVERTING. -/
def ClaimState.inTransit : ClaimState → Bool
  | .ours => true
  | .diverting => true
  | _ => false

/-- R37: a gate figure, or the nominal one where the gate gave 0, clamped. -/
def planFigure (lo hi gate nominal : Nat) : Nat := clamp lo hi (if gate = 0 then nominal else gate)

/-- R37: the planned mass of a case by the gate-or-nominal rule. -/
def plannedMass (g : GateFigures) (l : LineRec) : Nat := planFigure 1 65000 g.mass l.mass

/-- The planned mass of a case counted against a line of the build list; 0 for any other case (R51). -/
def State.massWon (s : State) (g : GateFigures) : LineRef → Nat
  | .counted n =>
    match s.lineAt n with
    | some l => plannedMass g l
    | none => 0
  | _ => 0

/-- The records of R51's sum that staging holds: the lane, the buffer table and a gripper case awaiting disposition, less
the case of the placement in flight. -/
def State.wonRecords (s : State) : List CaseRecord :=
  (s.staging.lane ++ s.staging.buffer.filterMap id ++
    ((s.staging.gripper.filter (fun g => g.awaiting)).map (fun g => g.held)).toList).filter (fun r => decide (r.mark ≠ some .place))

/-- R51: the sum of the planned masses of all the cases won and not yet placed. -/
def State.wonMass (s : State) : Nat :=
  (s.wonRecords.map (fun r => s.massWon r.gate r.line)).sum +
    ((s.claim.sightings.filter (fun e => e.state.inTransit)).map (fun e => s.massWon e.gate e.line)).sum

/-! ### Holds (R59) -/

def Holds.any (h : Holds) : Bool := h.operator || h.slip || h.disturbed || h.overload || h.armStopped

def Holds.has (h : Holds) : HoldReason → Bool
  | .operator => h.operator
  | .slip => h.slip
  | .disturbed => h.disturbed
  | .overload => h.overload
  | .armStopped => h.armStopped

def Holds.put (h : Holds) (r : HoldReason) (v : Bool) : Holds :=
  match r with
  | .operator => { h with operator := v }
  | .slip => { h with slip := v }
  | .disturbed => { h with disturbed := v }
  | .overload => { h with overload := v }
  | .armStopped => { h with armStopped := v }

/-! ### Outputs -/

/-- R115: the divert valve. -/
def State.valve (s : State) : Bool := s.divert.any (fun e => decide (e.phase = .fired))

/-- R18: stack-complete. -/
def State.stackComplete (s : State) : Bool :=
  match s.job.record with
  | some r => decide (r.phase = .ended ∧ r.outcome ≠ some .aborted)
  | none => false

/-- The class of an event kind in the class table in force (R167). -/
def State.classOf (s : State) (e : EventKind) : EventClass := s.start.cfg.classes.getD e.number .off

/-- The event kinds in the order of their numbers (R167). -/
def EventKind.all : List EventKind :=
  [.jobAdopted, .jobEnded, .jobAbandoned, .divertMissed, .strayCase, .idClash, .sightingDropped, .caseLost,
   .lockChanged, .beltStopped, .massMismatch, .notLanded, .unsettled, .offCentre, .slip, .overload,
   .plateDisturbed, .palletLost, .armFault, .armTimeout, .busTrouble, .vetoMuted, .duplicateStation, .configDefaulted]

/-- R169: ALERT is on while the flag of an event of class PROMPT is set. -/
def State.alert (s : State) : Bool :=
  EventKind.all.any (fun e => decide (s.classOf e = .prompt) && s.events.latched.getLsbD e.number)

/-- The two encoder lines A and B (R103). -/
def Pins.encoderA (p : Pins) : Bool := decide (p.encoder = 1 ∨ p.encoder = 2)
def Pins.encoderB (p : Pins) : Bool := decide (p.encoder = 2 ∨ p.encoder = 3)

/-! ### Status (R99, R100, R147, R170, R171) -/

/-- R74: the consecutive-good count, read from the history (oldest first), up to 32. -/
def Bus.consecutiveGood (b : Bus) : Nat := min 32 (b.history.reverse.takeWhile (fun e => e.good)).length

/-- R170: the cell state code. -/
def State.cellState (s : State) : Nat :=
  match s.start.state with
  | .starting => 0
  | .joining => 1
  | .unnumbered => 2
  | .idle =>
    if s.start.lockout then 3
    else
      match s.phase with
      | none => 4
      | some .collecting => 5
      | some .active => 6
      | some .closing => 7
      | some .ended => 8

/-- The stall time in ms (R2). -/
def State.stallMs (s : State) : Nat := s.start.cfg.stallTime * 1000

/-- R99: STARVING. -/
def State.starving (s : State) : Bool :=
  match s.job.record with
  | some r =>
    match r.stall with
    | some left =>
      decide (r.phase = .active) && decide (s.stagedCount = 0) && !s.claim.sightings.any (fun e => e.state.inTransit) &&
        decide (s.stallMs < 2 * (s.stallMs - left))
    | none => false
  | none => false

/-- R100: the wanted list. -/
def State.wantedList (s : State) : List ProductCode :=
  if s.active then
    (distinct ((sortBy (fun a b => decide (b.room < a.room)) ((s.heldLines.map (fun nl => nl.2)).filter LineRec.canTake)).map
      (fun l => l.product))).take 3
  else []

/-- The job id of CELL STATUS and STATUS REPORT: 0 with no job (R2). -/
def State.jobId (s : State) : JobId :=
  match s.job.record with
  | some r => r.job
  | none => 0

/-- R171: the fields of a CELL STATUS composed now. -/
def State.statusFields (s : State) : StatusFields where
  cellState := field8 s.cellState
  job := s.jobId
  lastSeq := field16 s.map.seq
  loadKg := field16 s.map.loadKg
  staged := field8 s.stagedCount
  flags := field8 ((if s.starving then 1 else 0) + (if s.planner.holds.any then 2 else 0) + (if s.travel.lock = .locked then 4 else 0))
  summary := s.events.latched
  offset10 := field16 (s.start.cfg.divertOffset / 10)
  wanted := s.wantedList

/-- R147: the job state code. -/
def State.jobStateCode (s : State) : Nat :=
  match s.phase with
  | none => 0
  | some .collecting => 1
  | some .active => 2
  | some .closing => 3
  | some .ended => 4

/-- R147: the outcome code, 0 for none and else the JOB END code plus one. -/
def State.outcomeCode (s : State) : Nat :=
  match s.job.record with
  | some r =>
    match r.outcome with
    | some o => o.code.toNat + 1
    | none => 0
  | none => 0

/-- R147: the hold reasons, one bit each from bit 0. -/
def Holds.code (h : Holds) : Nat :=
  (if h.operator then 1 else 0) + (if h.slip then 2 else 0) + (if h.disturbed then 4 else 0) + (if h.overload then 8 else 0) +
    (if h.armStopped then 16 else 0)

/-- R147: the lock state code. -/
def LockState.code : LockState → Nat
  | .unlocked => 0
  | .locked => 1
  | .stopped => 2

/-- R147: the body of a STATUS REPORT, 48 bytes. -/
def State.reportBody (s : State) : List Byte :=
  [field8 s.cellState] ++ bytes16 s.jobId ++ [field8 s.jobStateCode, field8 s.outcomeCode] ++ bytes16 (field16 s.map.seq) ++
    [field8 s.planner.holds.code, field8 s.travel.lock.code, field8 s.stagedCount] ++ bytes16 (field16 s.map.loadKg) ++
    bytes24 s.events.latched ++ s.events.counters.map field8 ++ [if s.bus.muted then 1 else 0] ++
    [field8 s.job.ignored, field8 s.bus.refused, field8 s.claim.foreign, field8 s.staging.overflow, field8 s.arm.malformed,
     field8 s.arm.unexpected] ++ bytes16 s.arm.lastFault

/-- R134: the bytes of one cell of a MAP ROW REPORT. -/
def GridCell.bytes (c : GridCell) : List Byte :=
  bytes16 (field16 c.top) ++ [field8 c.rank] ++ bytes16 (field16 c.reserve) ++ [if c.mark then 1 else 0]

/-- R36: the cells of a row of the grid in use, none for a row not in the grid. -/
def State.rowCells (s : State) (row : Nat) : List GridCell :=
  let cols := gridColumns s.codeInUse
  if row < gridRows s.codeInUse then (s.map.cells.drop (row * cols)).take cols else []

/-- R36, R134: the body of a MAP ROW REPORT for a row. -/
def State.mapRowBody (s : State) (row : Byte) : List Byte :=
  let cells := s.rowCells row.toNat
  [row, field8 s.codeInUse, field8 cells.length] ++ bytes16 (field16 s.map.seq) ++ bytes16 (field16 s.map.count) ++
    [if s.map.prov.isSome then 1 else 0] ++ cells.flatMap GridCell.bytes

end Sys2Proof.Machine
end

