-- ==== Sys2Proof/Machine/Queue.lean ====
section
/-! DEFINITION. The transmit queue (R68 to R73), the release backlog (R95), the end report list's offers (R19), and raising
an event (R168, R173), which may queue a CELL STATUS. -/

namespace Sys2Proof.Machine

/-! ### Groups and order of the queue (R68) -/

/-- The groups of places of R68. -/
inductive QueueGroup where
  | claimGroup | statusPlace | reportGroup
  deriving DecidableEq, Repr

def TxPayload.group : TxPayload → QueueGroup
  | .claim _ _ => .claimGroup
  | .adopt _ => .claimGroup
  | .status _ => .statusPlace
  | _ => .reportGroup

/-- The places of a group (R68). -/
def QueueGroup.places : QueueGroup → Nat
  | .claimGroup => 4
  | .statusPlace => 1
  | .reportGroup => 7

def Bus.inGroup (b : Bus) (g : QueueGroup) : Nat := (b.queue.filter (fun f => decide (f.payload.group = g))).length

/-- R61: the arbitration field less the sender, which is the same for all the part's frames. -/
def TxFrame.order (f : TxFrame) : Nat := f.payload.kind * 4096 + f.urgency * 32

/-- R69: a new frame, its urgency clamped. -/
def TxFrame.fresh (p : TxPayload) (urgency : Nat) : TxFrame :=
  { payload := p, urgency := min urgency 127, sending := false, vetoes := 0 }

/-- R68: a frame put in ascending order of field, after the frames of equal field. -/
def Bus.insert (b : Bus) (f : TxFrame) : Bus :=
  { b with queue := insertBy (fun x y => decide (x.order < y.order)) f b.queue }

/-- The frame that is SENDING. -/
def Bus.sendingFrame (b : Bus) : Option TxFrame := b.queue.find? (fun f => f.sending)

/-- R69, R70: a frame placed now contends at once: the line is idle with no frame SENDING, and it is the lowest WAITING frame. -/
def Bus.startsAtOnce (b : Bus) (f : TxFrame) : Bool :=
  decide (b.mode = .full) && b.idle && b.sendingFrame.isNone && b.queue.all (fun g => decide (f.order < g.order))

/-- R68, R69: a new frame is placed WAITING, or SENDING where it contends at once. A CLAIM is placed by a decision that has just
found its claim to stand (R87, R93). -/
def Bus.place (b : Bus) (p : TxPayload) (urgency : Nat) : Bus :=
  let f := TxFrame.fresh p urgency
  if b.startsAtOnce f then { b.insert { f with sending := true } with idle := false, drive := .recessive } else b.insert f

/-- R69, R77: queue a frame of the claim group or the report group, none where the request is refused. -/
def Bus.tryQueue (b : Bus) (p : TxPayload) (urgency : Nat) : Option Bus :=
  if b.mode = .full ∧ b.inGroup p.group < p.group.places then some (b.place p urgency) else none

/-- Every CELL STATUS out of the queue. -/
def Bus.dropStatus (b : Bus) : Bus := { b with queue := b.queue.filter (fun f => decide (f.payload.group ≠ .statusPlace)) }

/-- R69: the status place, with a CELL STATUS SENDING, WAITING or none in it. -/
def Bus.queueStatus (b : Bus) (f : StatusFields) : Bus :=
  if b.mode ≠ .full then b
  else if b.queue.any (fun q => q.sending && decide (q.payload.group = .statusPlace)) then { b with pendingStatus := some f }
  else b.dropStatus.place (.status f) 0

/-- The first frame of `q` that `p` holds of, taken out. -/
def removeFirst {α : Type} (p : α → Bool) : List α → List α
  | [] => []
  | x :: xs => if p x then xs else x :: removeFirst p xs

/-- The answers of R73. -/
inductive WithdrawAnswer where
  | withdrawn | begun | absent
  deriving DecidableEq, Repr

/-- R73: the answer to a withdrawal request for the frames that `key` names. -/
def Bus.withdrawAnswer (b : Bus) (key : TxPayload → Bool) : WithdrawAnswer :=
  if b.queue.any (fun f => key f.payload && !f.sending) then .withdrawn
  else if b.queue.any (fun f => key f.payload && f.sending) then .begun
  else .absent

/-- R73: the queue after a withdrawal request: a WAITING frame is removed, a SENDING one stays. -/
def Bus.withdraw (b : Bus) (key : TxPayload → Bool) : Bus :=
  { b with queue := removeFirst (fun f => key f.payload && !f.sending) b.queue }

/-- The owner's keys of R68 that are used in withdrawals: the case id of a CLAIM, the job id of an ADOPT. -/
def isClaimOf (c : CaseId) : TxPayload → Bool
  | .claim c' _ => decide (c' = c)
  | _ => false

def isAdoptOf (j : JobId) : TxPayload → Bool
  | .adopt j' => decide (j' = j)
  | _ => false

def isClaim : TxPayload → Bool
  | .claim _ _ => true
  | _ => false

/-! ### The backlog and the end reports (R19, R95) -/

/-- R95: the backlog offered oldest first, until it is empty or a request is refused. -/
def offerBacklog (b : Bus) : List (CaseId × ReleaseReason) → Bus × List (CaseId × ReleaseReason)
  | [] => (b, [])
  | (c, r) :: rest =>
    match b.tryQueue (.release c r.code) 0 with
    | some b' => offerBacklog b' rest
    | none => (b, (c, r) :: rest)

/-- R19: the end report list offered in order, until it is empty or a request is refused. -/
def offerEnds (b : Bus) : List TxPayload → Bus × List TxPayload
  | [] => (b, [])
  | p :: rest =>
    match b.tryQueue p 0 with
    | some b' => offerEnds b' rest
    | none => (b, p :: rest)

/-- R69: a place of the report group is told to the claim engine first and to the job unit after it. -/
def State.offerReports (s : State) : State :=
  let r1 := offerBacklog s.bus s.claim.backlog
  let r2 := offerEnds r1.1 s.job.endReports
  { s with bus := r2.1, claim := { s.claim with backlog := r1.2 }, job := { s.job with endReports := r2.2 } }

/-- R95: release a case with a reason: the frame is queued, or joins the backlog, or is forgone. -/
def State.releaseCase (s : State) (c : CaseId) (r : ReleaseReason) : State :=
  if s.bus.mode ≠ .full then s
  else
    match s.claim.backlog, s.bus.tryQueue (.release c r.code) 0 with
    | [], some b => s.setBus b
    | _, _ =>
      if s.claim.backlog.length < 24 then s.setClaim { s.claim with backlog := s.claim.backlog ++ [(c, r)] } else s

/-- A case with a case id is released; a stray is not (R95). -/
def State.releaseCase? (s : State) (c : Option CaseId) (r : ReleaseReason) : State :=
  match c with
  | some c => s.releaseCase c r
  | none => s

/-- R5, R8: a RELEASE in its job form, forgone where the queue has no place. -/
def State.releaseJobForm (s : State) (j : JobId) : State :=
  match s.bus.tryQueue (.releaseJob j ReleaseReason.abandoned.code) 0 with
  | some b => s.setBus b
  | none => s

/-! ### Raising an event (R168, R173) -/

/-- R171: compose a CELL STATUS now and ask for it to be queued. -/
def State.queueStatusNow (s : State) : State := s.setBus (s.bus.queueStatus s.statusFields)

/-- The counter of an event increased, saturating at 255 (R168). -/
def State.countEvent (s : State) (e : EventKind) : State :=
  s.setEvents { s.events with counters := s.events.counters.modify e.number sat8 }

/-- The latched flag of an event set (R168). -/
def State.latchEvent (s : State) (e : EventKind) : State :=
  s.setEvents { s.events with latched := setBit s.events.latched e.number }

/-- R173: a prompt CELL STATUS is asked for. -/
def State.promptStatus (s : State) : State :=
  match s.events.holdoff with
  | none => (s.queueStatusNow).setEvents { s.events with prompt := false }
  | some _ => s.setEvents { s.events with prompt := true }

/-- R168: an event raised, by its class. -/
def State.raiseAs (s : State) (cls : EventClass) (e : EventKind) : State :=
  match cls with
  | .off => s
  | .count => s.countEvent e
  | .deferred => (s.countEvent e).latchEvent e
  | .prompt =>
    if s.events.latched.getLsbD e.number then s.countEvent e
    else ((s.countEvent e).latchEvent e).promptStatus

/-- R167, R168: an event raised, under the class table in force. No event is taken before the configuration read ends. -/
def State.raise (s : State) (e : EventKind) : State :=
  if s.start.state = .starting then s else s.raiseAs (s.classOf e) e

end Sys2Proof.Machine
end

