-- ==== Sys2Proof/Machine/StackMap.lean ====
section
/-! DEFINITION. The stack map's own operations: footprints (R38), the provisional write (R28, R29), commits (R30, R31),
rollback (R33) and clearing (R34). What a commit or rollback reports to other blocks is in Machine/Jobs.lean. -/

namespace Sys2Proof.Machine

/-! ### Footprints (R9, R38, R40) -/

/-- R38: a length in whole cells, 1 to 16. -/
def cellsOf (mm : Nat) : Nat := clamp 1 16 (ceilDiv mm 50)

/-- R38: the columns covered in an orientation. -/
def footColumns (length width : Nat) (turned : Bool) : Nat := cellsOf (if turned then width else length)

/-- R38: the rows covered in an orientation. -/
def footRows (length width : Nat) (turned : Bool) : Nat := cellsOf (if turned then length else width)

/-- R40: the fit test, at an anchor. -/
def fitsAt (code c r lc wr : Nat) : Bool :=
  decide (c + lc ≤ gridColumns code ∧ r + wr ≤ gridRows code ∧ lc * wr ≤ 192)

/-- R38: the allowed orientations (true is 90), orientation 0 first. -/
def orientations (faceLock : Bool) : List Bool := if faceLock then [false] else [false, true]

/-- R9, R51: a footprint passes the fit test in some allowed orientation at some anchor. -/
def fitsSomewhere (code length width : Nat) (faceLock : Bool) : Bool :=
  (orientations faceLock).any (fun o => fitsAt code 0 0 (footColumns length width o) (footRows length width o))

/-- R27: the cells of a footprint, row-major: rows ascending and then columns ascending. -/
def footprintCells (code c r lc wr : Nat) : List Nat :=
  (List.range wr).flatMap (fun j => (List.range lc).map (fun i => (r + j) * gridColumns code + (c + i)))

/-- A cell record of the map. -/
def StackMap.cellAt (mp : StackMap) (i : Nat) : GridCell := mp.cells.getD i GridCell.empty

/-- R28, R40: rest, the largest top height over the cells. -/
def StackMap.restOver (mp : StackMap) (idx : List Nat) : Nat := idx.foldl (fun m i => max m (mp.cellAt i).top) 0

/-- R28, R41: a cell supports when its top height is at least rest − tol. -/
def GridCell.supports (c : GridCell) (rest tol : Nat) : Bool := decide (rest ≤ c.top + tol)

/-! ### The provisional write (R28, R29) -/

/-- R28 step 5, R31 step 2: the new reserve from the supporting reserves, the per-cell load and the class. -/
def newReserve (reserves : List Nat) (load crushClass : Nat) : Nat :=
  min ((reserves.map (fun r => reduceReserve r load)).foldl min unlimited) (rating crushClass)

/-- R28: the provisional record of a case at a place, with the saved cells. -/
def StackMap.provisionalOf (mp : StackMap) (code tol : Nat) (caseId : CaseId) (t : PlaceTarget) : Provisional :=
  let lc := footColumns t.figures.length t.figures.width t.turned
  let wr := footRows t.figures.length t.figures.width t.turned
  let idx := footprintCells code t.col t.row lc wr
  let rest := mp.restOver idx
  let cells := idx.map mp.cellAt
  let supporting := cells.filter (fun c => c.supports rest tol)
  let load := ceilDiv t.figures.m supporting.length
  { caseId := caseId, line := t.figures.line, col := t.col, row := t.row, turned := t.turned, lc := lc, wr := wr, rest := rest,
    h := t.figures.h, m := t.figures.m, crushClass := t.figures.crushClass, rank := t.figures.rank, s := supporting.length,
    load := load, reserve := newReserve (supporting.map (fun c => c.reserve)) load t.figures.crushClass,
    x := centroidX code t.col lc, y := centroidY code t.row wr, z := centroidZ rest t.figures.h,
    saved := cells.map (fun c => { top := c.top, rank := c.rank, reserve := c.reserve, supports := c.supports rest tol }) }

/-- Every cell of the list set to one value. -/
def setCells (cells : List GridCell) (idx : List Nat) (v : GridCell) : List GridCell := idx.foldl (fun cs i => cs.set i v) cells

/-- Every cell of the list set to a value of its own. -/
def setEach (cells : List GridCell) (vs : List (Nat × GridCell)) : List GridCell := vs.foldl (fun cs v => cs.set v.1 v.2) cells

/-- The footprint cells of a provisional record. -/
def Provisional.cells (p : Provisional) (code : Nat) : List Nat := footprintCells code p.col p.row p.lc p.wr

/-- R28 step 7: the map with the placement written. -/
def StackMap.write (mp : StackMap) (code : Nat) (p : Provisional) : StackMap :=
  { mp with prov := some p,
            cells := setCells mp.cells (p.cells code) { top := p.rest + p.h, rank := p.rank, reserve := p.reserve, mark := true } }

/-- R29: whether a write request is refused. -/
def State.writeRefused (s : State) (p : Provisional) : Bool :=
  s.map.prov.isSome || !s.active ||
    decide (gridColumns s.codeInUse < p.col + p.lc ∨ gridRows s.codeInUse < p.row + p.wr) ||
    decide ((match s.job.record with | some r => r.effHeight | none => 0) < p.rest + p.h)

/-- R28, R29: the map after a write request, none where it is refused. -/
def State.writeRequest (s : State) (caseId : CaseId) (t : PlaceTarget) : Option StackMap :=
  let p := s.map.provisionalOf s.codeInUse s.start.cfg.supportTol caseId t
  if s.writeRefused p then none else some (s.map.write s.codeInUse p)

/-! ### Commits, rollback and clearing -/

/-- A signed 32-bit figure at the end of its range (R24). -/
def clampSigned (x : Int) : Int := max (-2147483648) (min 2147483647 x)

/-- R30 steps 2 and 3, R31 step 4: one mass added to the figures, each staying in its range (R24), and the counts. -/
def StackMap.addMass (mp : StackMap) (m : Nat) (p : Provisional) : StackMap :=
  { mp with mTot := min 4294967295 (mp.mTot + m), sx := clampSigned (mp.sx + m * p.x), sy := clampSigned (mp.sy + m * p.y),
            sz := min 4294967295 (mp.sz + m * p.z), count := min 65535 (mp.count + 1), seq := (mp.seq + 1) % 65536 }

/-- R30: the map after a commit with the planned mass. -/
def StackMap.commitPlanned (mp : StackMap) (code : Nat) (p : Provisional) : StackMap :=
  let idx := p.cells code
  { mp.addMass p.m p with prov := none, cells := setEach mp.cells (idx.map (fun i => (i, { mp.cellAt i with mark := false }))) }

/-- R31: the reserve recomputed from the saved cells for a measured mass. -/
def Provisional.measuredReserve (p : Provisional) (m : Nat) : Nat :=
  newReserve ((p.saved.filter (fun c => c.supports)).map (fun c => c.reserve)) (ceilDiv m p.s) p.crushClass

/-- R31: the map after a commit with a measured mass. -/
def StackMap.commitMeasured (mp : StackMap) (code m : Nat) (p : Provisional) : StackMap :=
  let idx := p.cells code
  { mp.addMass m p with
      prov := none
      cells := setEach mp.cells (idx.map (fun i => (i, { mp.cellAt i with mark := false, reserve := p.measuredReserve m }))) }

/-- R33: the map after a rollback. -/
def StackMap.rolledBack (mp : StackMap) (code : Nat) (p : Provisional) : StackMap :=
  let restored := p.saved.map (fun c => ({ top := c.top, rank := c.rank, reserve := c.reserve, mark := false } : GridCell))
  { mp with prov := none, cells := setEach mp.cells ((p.cells code).zip restored) }

/-- The provisional record of a case (R32: a request that names another case finds none). -/
def State.provOf (s : State) (c : CaseId) : Option Provisional := s.map.prov.filter (fun p => decide (p.caseId = c))

end Sys2Proof.Machine
end

