-- ==== Sys2Proof/Machine/Claims.lean ====
section
/-! DEFINITION. The claim engine's operations: the interest set (R79), the claim decision (R86 to R89, R101), the ends of an
own CLAIM (R92 to R94), the passing of entries (R85) and the cancel at a job's end (R97). -/

namespace Sys2Proof.Machine

/-! ### Table helpers -/

def State.sighting (s : State) (c : CaseId) : Option Sighting := s.claim.sightings.find? (fun e => decide (e.caseId = c))

/-- The entry of a case id replaced. -/
def State.updSighting (s : State) (c : CaseId) (f : Sighting → Sighting) : State :=
  s.setClaim { s.claim with sightings := s.claim.sightings.map (fun e => if e.caseId = c then f e else e) }

/-- The entry of a case id removed. -/
def State.dropSighting (s : State) (c : CaseId) : State :=
  s.setClaim { s.claim with sightings := s.claim.sightings.filter (fun e => decide (e.caseId ≠ c)) }

/-- The planning request flag set (R54). -/
def State.setFlag (s : State) : State := s.setPlanner { s.planner with flag := true }

/-! ### Belt length and margins (R80, R82, R87) -/

/-- R80: the nominal length for an entry whose length the gate did not measure. -/
def State.nominalLength (s : State) (e : Sighting) : Nat :=
  let byProduct := match s.firstLine e.product with
    | some nl => nl.2.length
    | none => clamp 50 800 (Config.unstatedLength e.product)
  match e.line with
  | .counted n => match s.lineAt n with
    | some l => l.length
    | none => byProduct
  | _ => byProduct

/-- R80: the belt length of a case. -/
def State.beltLength (s : State) (e : Sighting) : Nat := if e.gate.length = 0 then s.nominalLength e else e.gate.length

/-- R82, R85: the running travel is past the end of the entry's confirm window. -/
def State.passedBy (s : State) (e : Sighting) : Bool :=
  isPast s.travel.count (onward e.arrival (s.beltLength e + s.start.cfg.confirmTail))

/-- R87, R93: the arrival travel less the running travel is greater than the claim margin. -/
def State.marginLeft (s : State) (e : Sighting) : Bool :=
  decide ((s.start.cfg.claimMargin : Int) < travelDiff e.arrival s.travel.count)

/-! ### The claim decision (R87, R88, R89, R101) -/

/-- R98: a peer entry is present while heard and its age is below 3. -/
def Peer.present (p : Peer) : Bool := p.heard && decide (p.age < 3)

/-- R101: courtesy deferral for a product. -/
def State.defers (s : State) (p : ProductCode) : Bool :=
  !s.starving &&
    s.claim.peers.any (fun q => q.present && decide (q.cellState = 6) && q.starving && decide (p ∈ q.wanted) &&
      decide (s.start.cfg.divertOffset < q.divertOffset))

/-- R81, R87: OURS, DIVERTING or CLAIMING. -/
def ClaimState.taken : ClaimState → Bool
  | .ours => true
  | .diverting => true
  | .claiming => true
  | _ => false

/-- R51: hopeless by height. -/
def State.tooTall (s : State) (h effHeight : Nat) : Bool := decide (effHeight < h + s.lowestTop)

/-- R87: the part claims the case of a FREE entry for the candidate line `l`. -/
def State.claimHolds (s : State) (e : Sighting) (l : LineRec) : Bool :=
  decide (s.start.state = .idle) && s.start.station.isSome && !s.start.lockout && decide (s.travel.lock = .locked) &&
    (match s.job.record with
     | some r =>
       decide (r.phase = .active) && !s.tooTall (planFigure 20 600 e.gate.height l.height) r.effHeight &&
         decide (s.map.standing.m + s.wonMass + plannedMass e.gate l ≤ r.effLoad)
     | none => false) &&
    s.marginLeft e &&
    decide (s.laneCount + (s.claim.sightings.filter (fun o => o.state.taken)).length < 6) &&
    s.claim.sightings.all (fun o => !o.state.taken || decide (s.start.cfg.minimumGap ≤ (travelDiff o.arrival e.arrival).natAbs)) &&
    !s.defers e.product

/-- R88: the urgency of a CLAIM. -/
def State.claimUrgency (s : State) (e : Sighting) (l : LineRec) : Nat :=
  let u : Int := 64 - (if l.room ≤ 2 then 32 else 0) - (if s.starving then 16 else 0) + (if 4 ≤ s.stagedCount then 16 else 0) -
    8 * (min e.lap 4 : Nat)
  min 127 u.toNat

/-- R86, R89: the claim decision for one entry: a CLAIM is queued and the entry becomes CLAIMING, or it stays as it is. -/
def State.decideClaim (s : State) (c : CaseId) : State :=
  match s.sighting c with
  | none => s
  | some e =>
    match e.state, s.candidateLine e.product with
    | .free, some nl =>
      if s.claimHolds e nl.2 then
        match s.bus.tryQueue (.claim c (field8 e.lap)) (s.claimUrgency e nl.2) with
        | some b => (s.setBus b).updSighting c (fun x => { x with state := .claiming, queued := true })
        | none => s
      else s
    | _, _ => s

/-- R86: every FREE entry re-examined in table order, each decision seeing the state the earlier ones left. -/
def State.reexamine (s : State) : State :=
  ((s.claim.sightings.filter (fun e => decide (e.state = .free))).map (fun e => e.caseId)).foldl State.decideClaim s

/-! ### The interest set (R79) -/

/-- R79: the interest set as it is rebuilt. -/
def State.interestNow (s : State) : List ProductCode :=
  if s.active then distinct ((s.heldLines.filter (fun nl => nl.2.canTake)).map (fun nl => nl.2.product)) else []

def State.rebuildInterest (s : State) : State := s.setClaim { s.claim with interest := s.interestNow }

/-- The job unit reports that line counts have changed: R79, R86 and R54 follow. -/
def State.countsChanged (s : State) : State := (s.rebuildInterest.reexamine).setFlag

/-- The staging unit reports that the lane count has fallen (R86, R127). -/
def State.laneFell (s : State) : State := s.reexamine

/-! ### Line counts (R11) -/

/-- The line record of a number changed. -/
def State.updLine (s : State) (n : Nat) (f : LineRec → LineRec) : State :=
  s.setJob { s.job with lines := s.job.lines.modify n (fun o => o.map f) }

/-- R11: the claimed count of the case's line decreases by one, and the claim engine is told. -/
def State.decreaseClaimed (s : State) (l : LineRef) : State :=
  match l with
  | .counted n =>
    match s.lineAt n with
    | some _ => (s.updLine n (fun l => { l with claimed := l.claimed - 1 })).countsChanged
    | none => s
  | _ => s

/-! ### Withdrawals of own CLAIMs (R92, R97) -/

/-- R92: the own CLAIM of a case is asked back; unless it has begun, the entry's flag becomes no. -/
def State.withdrawClaim (s : State) (c : CaseId) : State :=
  let s' := s.setBus (s.bus.withdraw (isClaimOf c))
  if s.bus.withdrawAnswer (isClaimOf c) = .begun then s' else s'.updSighting c (fun e => { e with queued := false })

/-- R80, R84: the own CLAIM of an entry, which carries its case id and its lap. A CLAIM of an older lap is not the entry's. -/
def Sighting.isOwnClaim (e : Sighting) : TxPayload → Bool
  | .claim c lap => decide (c = e.caseId ∧ lap.toNat = e.lap)
  | _ => false

/-- R97: the own CLAIM of an entry is SENDING. -/
def Bus.claimBegun (b : Bus) (e : Sighting) : Bool := b.queue.any (fun f => f.sending && e.isOwnClaim f.payload)

/-- R97 step 1: every WAITING own CLAIM is withdrawn. An entry whose CLAIM has not begun becomes FREE, or (THEIRS) loses its flag. -/
def State.withdrawClaims (s : State) : State :=
  let settle := fun (e : Sighting) =>
    if s.bus.claimBegun e then e
    else match e.state with
      | .claiming => { e with state := .free, queued := false }
      | _ => { e with queued := false }
  { s with bus := { s.bus with queue := s.bus.queue.filter (fun f => f.sending || !isClaim f.payload) },
           claim := { s.claim with sightings := s.claim.sightings.map settle } }

/-- R97 step 2, for one OURS entry: dropped from the schedule, its line count decreased, released CANCELLED and removed. -/
def State.cancelOne (s : State) (c : CaseId) : State :=
  match s.sighting c with
  | none => s
  | some e =>
    match e.state with
    | .ours =>
      (((s.setDivert (s.divert.filter (fun d => decide (d.caseId ≠ c)))).decreaseClaimed e.line).releaseCase c .cancelled).dropSighting c
    | _ => s

/-- R97: the claim engine as the job closes or ends by abort. -/
def State.cancelClaims (s : State) : State :=
  let s1 := s.withdrawClaims
  ((s1.claim.sightings.filter (fun e => decide (e.state = .ours))).map (fun e => e.caseId)).foldl State.cancelOne s1

/-! ### Reports of the bus controller on an own CLAIM (R92 to R94, R97) -/

/-- R92, R97: an own CLAIM returned to waiting. It is asked back where another station holds the case, where that station's RELEASE
has made the case FREE since (log 49), and where the job is not ACTIVE or the lockout is set (log 21). -/
def State.claimReturned (s : State) (c : CaseId) (lap : Byte) : State :=
  match s.sighting c with
  | none => s
  | some e =>
    if e.lap ≠ lap.toNat then s
    else
      match e.state with
      | .theirs _ => s.withdrawClaim c
      | .free => s.withdrawClaim c
      | .claiming =>
        if s.active && !s.start.lockout then s
        else (s.withdrawClaim c).updSighting c (fun e => { e with state := .free, queued := false })
      | _ => s

/-- R93, R94: an own CLAIM has left the queue unheard, expired or dropped: a CLAIMING entry becomes FREE and is decided, a
THEIRS entry loses its flag. DESIGN CHOICE (log 44): a CLAIM of an older lap than the entry's leaves the entry as it stands, since
a CLAIMING entry of a newer lap waits for a CLAIM of its own. -/
def State.claimLost (s : State) (c : CaseId) (lap : Byte) : State :=
  match s.sighting c with
  | none => s
  | some e =>
    if e.lap ≠ lap.toNat then s
    else
      match e.state with
      | .claiming => (s.updSighting c (fun e => { e with state := .free, queued := false })).decideClaim c
      | _ => s.updSighting c (fun e => { e with queued := false })

/-- R93: whether a queued own CLAIM still stands. -/
def State.claimStands (s : State) (c : CaseId) (lap : Byte) : Bool :=
  match s.sighting c with
  | none => false
  | some e => decide (e.state = .claiming) && decide (e.lap = lap.toNat) && s.marginLeft e

/-! ### Passing (R85) -/

/-- R85: a FREE, THEIRS or CLAIMING entry whose window has passed leaves the table; an own CLAIM for it is asked back. -/
def State.passOne (s : State) (c : CaseId) : State :=
  match s.sighting c with
  | none => s
  | some e =>
    if e.state.inTransit || !s.passedBy e then s
    else
      match e.state with
      | .claiming => (s.setBus (s.bus.withdraw (isClaimOf c))).dropSighting c
      | _ => s.dropSighting c

/-- R85: every entry tested for passing, in table order. -/
def State.passSightings (s : State) : State :=
  (s.claim.sightings.map (fun e => e.caseId)).foldl State.passOne s

end Sys2Proof.Machine
end

