-- ==== Sys2Proof/Machine/Jobs.lean ====
section
/-! DEFINITION. The job unit's operations: adoption (R5), entry to ACTIVE (R9), counting a commit (R12, R13), closing (R16),
abort (R17), entry to ENDED (R18, R19), teardown (R20); and what commits, rollbacks and clearings of the stack map report to
the job unit, the planner and the plate monitor (R30 to R34, R56, R58, R162). -/

namespace Sys2Proof.Machine

/-! ### What reaches the planner (R54, R56, R58) -/

/-- R56, R58: a pass in flight abandoned, a held result discarded, the flag set. -/
def State.plannerDrop (s : State) : State := s.setPlanner { s.planner with flag := true, pass := none, result := none }

/-- R58: a result planned over the placement that has just committed as planned is released. -/
def PlanResult.releasedBy (r : PlanResult) (c : CaseId) : Option PlanResult :=
  if r.prior = some c then some { r with released := true } else none

/-- R30 step 6, R56, R58: the planner told of a planned-mass commit. -/
def State.plannerCommit (s : State) (c : CaseId) : State :=
  s.setPlanner { s.planner with flag := true, pass := none, result := s.planner.result.bind (fun r => r.releasedBy c) }

/-- R59: a reason added to the hold-reason set. A held result is then discarded (R58); a pass runs on (R56). -/
def State.addHold (s : State) (r : HoldReason) : State :=
  if s.planner.holds.has r then s
  else
    let holds := s.planner.holds.put r true
    match s.planner.result with
    | some _ => s.setPlanner { s.planner with holds := holds, result := none, flag := true }
    | none => s.setPlanner { s.planner with holds := holds }

/-- R59: a reason removed. When the set becomes empty the flag is set (R54). -/
def State.removeHold (s : State) (r : HoldReason) : State :=
  if s.planner.holds.has r then
    let holds := s.planner.holds.put r false
    s.setPlanner { s.planner with holds := holds, flag := s.planner.flag || !holds.any }
  else s

/-! ### Job state changes -/

/-- A change of the job state reaches the claim engine (R79) and the planner (R54, R56, R58). -/
def State.jobChanged (s : State) : State := (s.rebuildInterest).plannerDrop

/-- The job record changed. -/
def State.updRecord (s : State) (f : JobRecord → JobRecord) : State :=
  s.setJob { s.job with record := s.job.record.map f }

/-- R16: entry to CLOSING with an outcome: both timers stop, the planner is told, the claim engine cancels (R97). -/
def State.enterClosing (s : State) (o : JobOutcome) : State :=
  ((s.updRecord (fun r => { r with phase := .closing, outcome := some o, stall := none, collect := none })).jobChanged).cancelClaims

/-- R13: the completion test, in ACTIVE. -/
def State.completionTest (s : State) : State :=
  if s.active then
    let lines := s.heldLines.map (fun nl => nl.2)
    if lines.all (fun l => decide (l.status = .lineDone)) then s.enterClosing .complete
    else if lines.all (fun l => decide (l.status = .lineDone ∨ l.status = .unplaceable)) then s.enterClosing .short
    else s
  else s

/-- R12: a commit counted against its line. -/
def LineRec.countCommit (l : LineRec) : LineRec :=
  { l with placed := l.placed + 1, claimed := l.claimed - 1, status := if l.placed + 1 = l.ordered then .lineDone else l.status }

/-- R12: the job unit told of a commit for a line: the counts, the stall timer in ACTIVE, the claim engine, the completion test. -/
def State.countCommit (s : State) (n : Nat) : State :=
  match s.lineAt n with
  | none => s
  | some _ =>
    (((s.updLine n LineRec.countCommit).updRecord
      (fun r => if r.phase = .active then { r with stall := some s.stallMs } else r)).countsChanged).completionTest

/-- R162: the OFF CENTRE comparison after a commit. -/
def State.offCentreTest (s : State) : State :=
  if 20000 ≤ s.plate.load ∧
      ((s.start.cfg.comTol : Int) < absDiff s.plate.xm s.map.committed.x ∨ (s.start.cfg.comTol : Int) < absDiff s.plate.ym s.map.committed.y) then
    s.raise .offCentre
  else s

/-- R30, R32: a commit with the planned mass asked for a case. -/
def State.commitPlanned (s : State) (c : CaseId) : State :=
  match s.provOf c with
  | none => s
  | some p => (((s.setMap (s.map.commitPlanned s.codeInUse p)).countCommit p.line).plannerCommit c).offCentreTest

/-- R31, R32: a commit with a measured mass asked for a case. -/
def State.commitMeasured (s : State) (c : CaseId) (m : Nat) : State :=
  match s.provOf c with
  | none => s
  | some p => (((s.setMap (s.map.commitMeasured s.codeInUse m p)).countCommit p.line).plannerDrop).offCentreTest

/-- R32, R33: a rollback asked for a case. -/
def State.rollback (s : State) (c : CaseId) : State :=
  match s.provOf c with
  | none => s
  | some p => (s.setMap (s.map.rolledBack s.codeInUse p)).plannerDrop

/-- R34: the map cleared, and the planner told. -/
def State.clearMap (s : State) : State := (s.setMap StackMap.cleared).plannerDrop

/-! ### The end of a job (R16 to R20) -/

/-- R16: a placement is in flight. -/
def State.placementInFlight (s : State) : Bool :=
  s.map.prov.isSome || s.plate.watch.isSome ||
    (match s.arm.cmd with
     | some c =>
       match c.action with
       | .place _ => true
       | _ => false
     | none => false)

/-- R16: the drain is complete. -/
def State.drained (s : State) : Bool :=
  decide (s.stagedCount = 0) && !s.claim.sightings.any (fun e => e.state.inTransit) && !s.placementInFlight

/-- The cases placed by the job: the sum of the placed counts (R18). -/
def State.casesPlaced (s : State) : Nat := (s.heldLines.map (fun nl => nl.2.placed)).sum

/-- The lines short of their order (R18). -/
def State.shortLines (s : State) : List (Nat × LineRec) := s.heldLines.filter (fun nl => decide (nl.2.placed < nl.2.ordered))

/-- R18, R19: the entries of an ended job, JOB END first and then its SHORT LINEs in ascending line number. -/
def State.endEntries (s : State) (job : JobId) (o : JobOutcome) (placed loadKg : Nat) : List TxPayload :=
  .jobEnd job o.code (field16 placed) (field16 loadKg) (field8 s.shortLines.length) ::
    s.shortLines.map (fun nl => .shortLine job (field8 nl.1) (field16 (nl.2.ordered - nl.2.placed)))

/-- R18, R19: the report of an ended job: its entries appended as far as 130 places go, offered, and JOB ENDED raised. -/
def State.reportEnd (s : State) (job : JobId) (o : JobOutcome) (placed loadKg : Nat) : State :=
  let entries := (s.endEntries job o placed loadKg).take (130 - s.job.endReports.length)
  ((s.setJob { s.job with endReports := s.job.endReports ++ entries }).offerReports).raise .jobEnded

/-- R2, R20: the job record and the build list cleared, the state NONE. -/
def State.clearJob (s : State) : State :=
  (s.setJob { s.job with record := none, lines := List.replicate 64 none }).jobChanged

/-- R16, R18: the end of a drain in CLOSING: the state becomes ENDED and the job is reported. -/
def State.endDrained (s : State) (r : JobRecord) : State :=
  let s1 := s.updRecord (fun r => { r with phase := .ended })
  (s1.jobChanged).reportEnd r.job (r.outcome.getD .complete) s.casesPlaced s.map.loadKg

/-- R16, R20: the drain test. In CLOSING it ends the job; in ENDED after an abort it clears the record. -/
def State.drainTest (s : State) : State :=
  match s.job.record with
  | none => s
  | some r =>
    if s.drained then
      match r.phase, r.outcome with
      | .closing, _ => s.endDrained r
      | .ended, some .aborted => s.clearJob
      | _, _ => s
    else s

/-- R17: the abort at a pallet-present fall, for the job record `r`. -/
def State.abort (s : State) (r : JobRecord) : State :=
  let placed := s.casesPlaced
  let loadKg := s.map.loadKg
  let s1 := s.updRecord (fun r => { r with phase := .ended, outcome := some .aborted, stall := none, collect := none })
  let s2 := ((s1.clearMap).raise .palletLost).jobChanged.cancelClaims
  s2.reportEnd r.job .aborted placed loadKg

/-- R20: teardown at the pallet-present fall. -/
def State.teardown (s : State) : State := (s.clearMap).clearJob

/-- R17, R20: the pallet-present fall at the job unit. -/
def State.jobPalletFall (s : State) : State :=
  match s.job.record with
  | none => s
  | some r =>
    match r.phase with
    | .ended => if r.outcome = some .aborted then s else s.teardown
    | _ => s.abort r

/-! ### Bids and adoption (R3 to R5) -/

def State.clearOffer (s : State) : State := s.setJob { s.job with offer := none }

/-- R4: a queued ADOPT withdrawn. Where it has begun, the bid state becomes SENDING and `f` is what the event does there. -/
def State.withdrawBid (s : State) (f : Offer → Option Offer) : State :=
  match s.job.offer with
  | none => s
  | some o =>
    match o.bid with
    | .sending => s.setJob { s.job with offer := f o }
    | .queued =>
      if s.bus.withdrawAnswer (isAdoptOf o.job) = .begun then s.setJob { s.job with offer := f { o with bid := .sending } }
      else (s.setBus (s.bus.withdraw (isAdoptOf o.job))).clearOffer

/-- R9: an effective limit: the cell's own where the offer gave 0, else the lesser of the two. -/
def effectiveLimit (offered configured : Nat) : Nat := if offered = 0 then configured else min offered configured

/-- R5: adoption of the offered job. -/
def State.adoptJob (s : State) (o : Offer) : State :=
  let r : JobRecord :=
    { job := o.job, lineCount := o.lineCount, footprint := o.footprint,
      effHeight := effectiveLimit o.heightLimit s.start.cfg.heightLimit,
      effLoad := effectiveLimit (o.loadLimit * 1000) (s.start.cfg.loadLimitKg * 1000),
      phase := .collecting, outcome := none, stall := none, collect := some collectTime }
  let s1 := s.setJob { s.job with record := some r, lines := List.replicate 64 none }
  (((s1.setMap { s1.map with seq := 0 }).raise .jobAdopted).clearOffer).jobChanged

/-- R5: abandonment of the offered job. -/
def State.abandonBid (s : State) (o : Offer) : State :=
  ((s.releaseJobForm o.job).raise .jobAbandoned).clearOffer

/-! ### Entry to ACTIVE (R9) -/

/-- R9: the status of a line at entry to ACTIVE. -/
def LineRec.statusAt (l : LineRec) (code effHeight : Nat) : LineStatus :=
  if l.ordered = 0 then .lineDone
  else if effHeight < l.height then .unplaceable
  else if fitsSomewhere code l.length l.width l.faceLock then .lineOpen
  else .unplaceable

/-- R9: entry to ACTIVE. -/
def State.activate (s : State) (r : JobRecord) : State :=
  let s1 := s.setJob { s.job with
    record := some { r with phase := .active, collect := none, stall := some s.stallMs }
    lines := s.job.lines.map (fun o => o.map (fun l => { l with status := l.statusAt r.footprint r.effHeight })) }
  ((s1.jobChanged).countsChanged).completionTest

/-- R6: the build list holds an entry for every line number of the job. -/
def State.linesComplete (s : State) (r : JobRecord) : Bool :=
  (List.range r.lineCount).all (fun n => (s.lineAt n).isSome)

end Sys2Proof.Machine
end

