-- ==== Sys2Proof/Machine/Divert.lean ====
section
/-! DEFINITION. The divert unit's operations: the lead (R113), arming and firing (R113, R114), the off point (R115), the end of
a confirm window (R117), and joining the schedule (R112); and what a change of the running travel starts (R85, R113 to R117). -/

namespace Sys2Proof.Machine

/-- R113: the divert lead. It is read from the lock state and the speeds, which change only where R113 forms it anew. -/
def State.lead (s : State) : Nat :=
  match s.travel.lock with
  | .locked => s.travel.v * s.start.cfg.leadTime / 1000
  | .unlocked => s.travel.vHold * s.start.cfg.leadTime / 1000
  | .stopped => 0

def State.divertEntry (s : State) (c : CaseId) : Option DivertEntry := s.divert.find? (fun e => decide (e.caseId = c))

def State.updDivert (s : State) (c : CaseId) (f : DivertEntry → DivertEntry) : State :=
  s.setDivert (s.divert.map (fun e => if e.caseId = c then f e else e))

/-- R119: a case dropped from the schedule. -/
def State.dropDivert (s : State) (c : CaseId) : State := s.setDivert (s.divert.filter (fun e => decide (e.caseId ≠ c)))

/-- R115: the off point. -/
def DivertEntry.offPoint (e : DivertEntry) : TravelMm := onward e.arrival e.belt

/-- R117: a MISSED entry: removed, the sighting entry removed and released MISSED, its line count decreased, the event raised. -/
def State.missDivert (s : State) (c : CaseId) : State :=
  let line := match s.sighting c with
    | some e => e.line
    | none => LineRef.absent
  ((((s.dropDivert c).dropSighting c).releaseCase c .missed).decreaseClaimed line).raise .divertMissed

/-- R113: the arming test for an entry; the sighting entry becomes DIVERTING. -/
def State.armTest (s : State) (c : CaseId) : State :=
  match s.divertEntry c with
  | none => s
  | some e =>
    if e.phase = .waiting ∧ reachedBefore s.travel.count e.arrival (s.lead + 100) = true then
      (s.updDivert c (fun e => { e with phase := .armed })).updSighting c (fun x => { x with state := .diverting })
    else s

/-- R114: the firing test for an entry. DESIGN CHOICE (log 46): where its off point is past and the occupancy is 6 together, the off
point decides, and the entry is SPENT. -/
def State.fireTest (s : State) (c : CaseId) : State :=
  match s.divertEntry c with
  | none => s
  | some e =>
    if e.phase = .armed ∧ reachedBefore s.travel.count e.arrival s.lead = true then
      if isPast s.travel.count e.offPoint then s.updDivert c (fun e => { e with phase := .spent })
      else if s.occupancy < 6 then s.updDivert c (fun e => { e with phase := .fired, fire := some s.travel.count })
      else s.missDivert c
    else s

/-- R115: a FIRED entry whose off point is passed becomes SPENT. -/
def State.offTest (s : State) (c : CaseId) : State :=
  match s.divertEntry c with
  | none => s
  | some e =>
    if e.phase = .fired ∧ isPast s.travel.count e.offPoint = true then s.updDivert c (fun e => { e with phase := .spent }) else s

/-- R116, R117: the running travel is past the end of the entry's confirm window. -/
def State.windowOver (s : State) (e : DivertEntry) : Bool :=
  isPast s.travel.count (onward e.arrival (e.belt + s.start.cfg.confirmTail))

/-- R117: an entry whose confirm window has ended is MISSED as NOT SEEN. -/
def State.windowTest (s : State) (c : CaseId) : State :=
  match s.divertEntry c with
  | none => s
  | some e => if s.windowOver e then s.missDivert c else s

/-- A test made for every entry of the schedule, in arrival order. -/
def State.forEntries (s : State) (f : State → CaseId → State) : State :=
  (s.divert.map (fun e => e.caseId)).foldl f s

/-- R113 to R117: the tests made at a change of the running travel or of the lead and when an entry joins: arming and firing
first, in arrival order (R117), then the off points, then the ends of the windows. -/
def State.divertTests (s : State) : State :=
  ((s.forEntries (fun s c => (s.armTest c).fireTest c)).forEntries State.offTest).forEntries State.windowTest

/-- What a change of the running travel starts: the divert tests, and the passing of sighting entries (R85). DESIGN CHOICE (log 47):
in that order. -/
def State.travelChanged (s : State) : State := (s.divertTests).passSightings

/-- R112: a case just become OURS joins the schedule in arrival order and is tested at once. DESIGN CHOICE (log 45): of two entries
with equal arrival travel the later to join stands after. -/
def State.joinDivert (s : State) (e : Sighting) : State :=
  let d : DivertEntry := { caseId := e.caseId, arrival := e.arrival, belt := clamp 50 800 (s.beltLength e), phase := .waiting, fire := none }
  (s.setDivert (insertBy (fun x y => decide (travelDiff x.arrival s.travel.count < travelDiff y.arrival s.travel.count)) d s.divert)).divertTests

/-- R116: an entry that a case start can confirm now. -/
def State.confirmable (s : State) (e : DivertEntry) : Bool :=
  decide (e.phase = .fired ∨ e.phase = .spent) && e.fire.isSome &&
    decide (0 ≤ travelDiff s.travel.count (e.arrival - 100)) && !s.windowOver e

end Sys2Proof.Machine
end

