-- ==== Sys2Proof/Machine/Staging.lean ====
section
/-! DEFINITION. The staging unit's operations: joining (R125, R126, R132), the moves of a command (R128, R129, R131), and the
effects of a completed RETURN (R130), with the notices of R127. -/

namespace Sys2Proof.Machine

/-- The buffer position `b` (1 to 4). -/
def Staging.bufferAt (g : Staging) (b : Nat) : Option CaseRecord := if b = 0 then none else g.buffer.getD (b - 1) none

def Staging.setBuffer (g : Staging) (b : Nat) (r : Option CaseRecord) : Staging :=
  if b = 0 then g else { g with buffer := g.buffer.set (b - 1) r }

/-- A case record without figures: a stray (R126, R132). -/
def CaseRecord.stray (staged : ClockMs) : CaseRecord :=
  { caseId := none, product := none, gate := { mass := 0, length := 0, width := 0, height := 0 }, lap := none, line := .absent,
    staged := staged, mark := none }

/-- R125: a confirmed case joins the tail of the lane queue with the fields of its sighting entry. -/
def State.joinLane (s : State) (e : Sighting) : State :=
  let r : CaseRecord :=
    { caseId := some e.caseId, product := some e.product, gate := e.gate, lap := some e.lap, line := e.line,
      staged := s.staging.clock, mark := none }
  (s.setStaging { s.staging with lane := s.staging.lane ++ [r] }).setFlag

/-- R118, R126: a stray at the lane: it joins, or with the occupancy at 6 is counted as overflow. -/
def State.strayAtLane (s : State) : State :=
  let s1 := s.raise .strayCase
  if s1.occupancy < 6 then
    (s1.setStaging { s1.staging with lane := s1.staging.lane ++ [CaseRecord.stray s1.staging.clock] }).setFlag
  else s1.setStaging { s1.staging with overflow := sat8 s1.staging.overflow }

/-- R132: a case the robot holds without a record is taken in as a stray with disposition RETURN. -/
def State.takeInGripper (s : State) : State :=
  (s.setStaging { s.staging with
    gripper := some { held := CaseRecord.stray s.staging.clock, command := none, target := 0, disposition := .ret } }).setFlag

/-- R128: the command mark set on a command's case at its source. A record there of another case is not the command's (log 24). -/
def State.markSource (s : State) (src : Source) (caseId : Option CaseId) (c : ArmCommand) : State :=
  let mark := fun (r : CaseRecord) => if r.caseId = caseId then { r with mark := some c } else r
  match src with
  | .lane =>
    match s.staging.lane with
    | r :: rest => s.setStaging { s.staging with lane := mark r :: rest }
    | [] => s
  | .buffer b => s.setStaging (s.staging.setBuffer b ((s.staging.bufferAt b).map mark))
  | .gripper => s.setStaging { s.staging with gripper := s.staging.gripper.map (fun g => { g with held := mark g.held }) }

/-- The case record at a command's source. -/
def State.caseAt (s : State) : Source → Option CaseRecord
  | .lane => s.staging.lane.head?
  | .buffer b => s.staging.bufferAt b
  | .gripper => s.staging.gripper.map (fun g => g.held)

/-- The record at a place taken out of the staging unit's records. -/
def Staging.without (g : Staging) : Source → Staging
  | .lane => { g with lane := g.lane.tail }
  | .buffer b => g.setBuffer b none
  | .gripper => { g with gripper := none }

/-- R127: the notices of a case that has left a place, given once the whole change is made (log 43): the fall of the lane count
where it left from the lane, and the planner's flag. A case that ACCEPT moves from a buffer position to the gripper has no row in
the table of notices; DESIGN CHOICE (log 43): it gives the planner the notice that a case leaves staging, as one from the lane does. -/
def State.toldLeft (s : State) : Source → State
  | .lane => s.laneFell.setFlag
  | _ => s.setFlag

/-- The record of the case of the outstanding command, where the place `src` holds it: it carries the command mark (R120). -/
def State.markedAt (s : State) (src : Source) : Option CaseRecord := (s.caseAt src).filter (fun r => r.mark.isSome)

/-- R128: the ACCEPT of a command moves its case, where the source holds it, to the gripper record. DESIGN CHOICE (log 42): where
the gripper record holds another case by then, a stray taken in before the command was issued, that record is overwritten. -/
def State.acceptMove (s : State) (src : Source) (c : ArmCommand) (target : Nat) : State :=
  match s.markedAt src with
  | none => s
  | some r =>
    let g : Gripper := { held := r, command := some c, target := target, disposition := .none }
    let s1 := s.setStaging { s.staging.without src with gripper := some g }
    if src = .gripper then s1 else s1.toldLeft src

/-- Where the case of a command is held, if it is: its source while it is still there, else the gripper record (R131). -/
def State.commandPlace (s : State) (src : Source) : Option Source :=
  if (s.markedAt src).isSome then some src
  else if (s.markedAt .gripper).isSome then some .gripper
  else none

/-- The place and the record of a command's case. -/
def State.commandCase (s : State) (src : Source) : Option (Source × CaseRecord) :=
  (s.commandPlace src).bind (fun place => (s.caseAt place).map (fun r => (place, r)))

/-- R129, R131: the case of a command removed from wherever it is held; one no longer held is ignored. -/
def State.removeCase (s : State) (src : Source) : State :=
  match s.commandCase src with
  | none => s
  | some (place, _) => (s.setStaging (s.staging.without place)).toldLeft place

/-- R129, R131: the case of a SET ASIDE moves to its target position, its mark none. -/
def State.moveToBuffer (s : State) (src : Source) (b : Nat) : State :=
  match s.commandCase src with
  | none => s
  | some (place, r) =>
    (s.setStaging ((s.staging.without place).setBuffer b (some { r with mark := none }))).toldLeft place

/-- R131: the case of a command is in the gripper, command none, mark none, with a disposition. -/
def State.holdInGripper (s : State) (src : Source) (d : GripDisposition) : State :=
  match s.commandCase src with
  | none => s
  | some (place, r) =>
    let g : Gripper := { held := { r with mark := none }, command := none, target := 0, disposition := d }
    (s.setStaging { s.staging.without place with gripper := some g }).toldLeft place

/-- R130: a completed RETURN: the case leaves, is released RETURNED, its line count decreases, and the notices follow. -/
def State.returnCase (s : State) (src : Source) : State :=
  match s.commandCase src with
  | none => s
  | some (place, r) =>
    (((s.setStaging (s.staging.without place)).releaseCase? r.caseId .returned).decreaseClaimed r.line).toldLeft place

end Sys2Proof.Machine
end

