-- ==== Sys2Proof/Machine/Plate.lean ====
section
/-! DEFINITION. The plate monitor's figures and records: filters, masses and load (R150, R151), baseline tracking (R154), the
settle tracker (R152), the watch (R156 to R159), the verdict (R157, R158), the measured centre and slip (R161, R164), the
disturbance and overload tests (R163, R165) and the sampling mode (R166). -/

namespace Sys2Proof.Machine

/-! ### Filters, masses and load (R150, R151, R154) -/

/-- The period and the filter shift of a mode (R150, R166). -/
def SamplingMode.period : SamplingMode → Nat
  | .active => 10
  | .watch => 40
  | .rest => 400

def SamplingMode.shift : SamplingMode → Nat
  | .active => 1
  | .watch => 2
  | .rest => 3

/-- The nine raw counts of a scan as numbers. -/
def rawCounts (scan : List RawCount) : List Int := (List.range 9).map (fun i => (scan.getD i 0).toInt)

/-- R150: the filters after a scan. -/
def filtered (f raw : List Int) (k : Nat) : List Int :=
  List.zipWith (fun f r => f + (r - f).tdiv (2 ^ k : Nat)) f raw

/-- R151: the mass of a channel, in g. -/
def channelMass (gain : Nat) (f8 b8 : Int) (weight : Nat) (f b : Int) : Int :=
  (((f - b) - ((f8 - b8) * weight).tdiv 128) * gain).tdiv 1024

/-- R151: the eight channel masses. -/
def channelMasses (cfg : Params) (f b : List Int) : List Int :=
  (List.range 8).map (fun i => channelMass cfg.gain (f.getD 8 0) (b.getD 8 0) (cfg.weights.getD i 128) (f.getD i 0) (b.getD i 0))

/-- R154: a baseline that follows slow drift. -/
def trackBaseline (gain : Nat) (f b : Int) : Int :=
  if ((((f - b) * gain).tdiv 1024).natAbs ≤ 50) then b + (f - b).tdiv 64 else b

/-- The masses and the load formed from the filters and baselines (R151). -/
def Plate.weigh (p : Plate) (cfg : Params) : Plate :=
  let ms := channelMasses cfg p.f p.b
  { p with masses := ms, load := ms.sum }

/-! ### Positions and the measured centre (R151, R161) -/

/-- The positions of the eight loaded cells, in half-lengths and half-widths of the pallet (R151). -/
def cellPlaces : List (Int × Int) := [(-1, -1), (1, -1), (1, 1), (-1, 1), (0, -1), (1, 0), (0, 1), (-1, 0)]

/-- R161: the measured centre of mass of channel masses on the pallet of a code. -/
def measuredCentre (code : Nat) (masses : List Int) (load : Int) : Int × Int :=
  let xs := List.zipWith (fun (m : Int) pl => m * (pl.1 * Int.ofNat (palletLength code / 2))) masses cellPlaces
  let ys := List.zipWith (fun (m : Int) pl => m * (pl.2 * Int.ofNat (palletWidth code / 2))) masses cellPlaces
  (xs.sum.tdiv load, ys.sum.tdiv load)

/-! ### The quiet timer and the settle tracker (R152, R166) -/

/-- R166: the quiet timer restarts, with the current load as the quiet reference. -/
def Plate.restartQuiet (p : Plate) (cfg : Params) : Plate := { p with quietLeft := some cfg.quietTime, quietRef := p.load }

/-- R152: the settle tracker restarts. -/
def Plate.restartSettle (p : Plate) : Plate := { p with restart := true }

/-- R152: the tracker at a sample, and whether the plate is settled at it. -/
def Plate.track (p : Plate) (cfg : Params) : Plate × Bool :=
  if p.restart then ({ p with restart := false, ref := p.load, runStart := p.clock }, false)
  else if (cfg.settleBand : Int) < absDiff p.load p.ref then ({ p with ref := p.load, runStart := p.clock }, false)
  else (p, decide (cfg.settleTime ≤ p.clock - p.runStart))

/-! ### The watch (R156, R159) -/

/-- R163: a watch that is open and not orphaned. -/
def Plate.watching (p : Plate) : Bool :=
  match p.watch with
  | some w => !w.orphaned
  | none => false

/-- R156: a watch opens at a PLACE's ACCEPT. -/
def State.openWatch (s : State) (c : CaseId) (l : LineRef) (m : Nat) : State :=
  let p := s.plate
  let w : Watch :=
    { caseId := c, line := l, m := m, open0 := p.lastSettled, phase := .opened, orphaned := decide (p.state ≠ .tared), doneAt := none }
  s.setPlate ({ p with watch := some w, history := [], disturbFrom := none, clearFrom := none }.restartQuiet s.start.cfg)

/-- R158, R159: the watch closes. -/
def State.closeWatch (s : State) : State :=
  s.setPlate ({ s.plate with watch := none, verifyLeft := none, history := [] }.restartQuiet s.start.cfg)

/-- R159: the watch of a case closes without a verdict, if it is open. -/
def State.closeWatchOf (s : State) (c : CaseId) : State :=
  match s.plate.watch with
  | some w => if w.caseId = c then s.closeWatch else s
  | none => s

/-! ### The verdict (R157, R158) -/

/-- The verdicts of R157. -/
inductive Verdict where
  | notLanded
  | massMismatch (m : Nat)
  | verified
  | unsettled
  deriving DecidableEq, Repr

/-- R157: the verdict on a settled load. -/
def verdictOf (w : Watch) (settled : Int) (tol : Nat) : Verdict :=
  let gain := settled - w.open0
  if gain < (w.m / 2 : Nat) then .notLanded
  else if (max 200 (w.m * tol / 100) : Nat) < absDiff gain w.m then .massMismatch (clamp 1 65000 gain.toNat)
  else .verified

/-- R158: a verdict handed on for the watched case. -/
def State.giveVerdict (s : State) (w : Watch) (v : Verdict) : State :=
  let s1 := s.closeWatch
  match v with
  | .verified => s1.commitPlanned w.caseId
  | .unsettled => (s1.commitPlanned w.caseId).raise .unsettled
  | .massMismatch m => (s1.commitMeasured w.caseId m).raise .massMismatch
  | .notLanded => ((((s1.rollback w.caseId).releaseCase w.caseId .lost).decreaseClaimed w.line).raise .notLanded).raise .caseLost

/-- R157, R159: DONE reported for a case: the watch settles, or (orphaned) gets NOT LANDED at once. -/
def State.plateDone (s : State) (c : CaseId) : State :=
  match s.plate.watch with
  | none => s
  | some w =>
    if w.caseId ≠ c then s
    else if w.orphaned then s.giveVerdict w .notLanded
    else
      s.setPlate { s.plate with watch := some { w with phase := .settling, doneAt := some s.plate.clock }, verifyLeft := some verifyTime, restart := true }

/-! ### Tests of a sample (R161, R163 to R166) -/

/-- R164: the slip test applies. -/
def Plate.slipApplies (p : Plate) : Bool := decide (p.state = .tared) && p.watch.isNone && p.evidence.isNone

/-- R161: the history less the entries older than the slip window. -/
def Plate.recent (p : Plate) (cfg : Params) : List Centre := p.history.filter (fun c => decide (p.clock - c.time ≤ cfg.slipWindow))

/-- R161, R164: the measured centre formed at a sample, its slip test and the history. DESIGN CHOICE (log 55): the entries older than the
slip window leave at a sample that forms a centre and applies the slip test, and at no other. -/
def State.centreTest (s : State) : State :=
  let p := s.plate
  if p.load < 20000 then s
  else
    let xy := measuredCentre s.codeInUse p.masses p.load
    let p1 := { p with xm := xy.1, ym := xy.2 }
    if p1.slipApplies then
      let old := p1.recent s.start.cfg
      let d : Int := s.start.cfg.slipDistance
      if old.any (fun c => decide (d < absDiff xy.1 c.x) || decide (d < absDiff xy.2 c.y)) then
        ((s.setPlate { p1 with history := [] }).raise .slip).addHold .slip
      else s.setPlate { p1 with history := lastN 17 (old ++ [{ time := p1.clock, x := xy.1, y := xy.2 }]) }
    else s.setPlate p1

/-- R163: the disturbance test is made. -/
def Plate.disturbApplies (p : Plate) : Bool := decide (p.state = .tared) && !p.watching && p.evidence.isNone

/-- R163: the load is outside the disturb band. -/
def State.outsideBand (s : State) : Bool := decide ((s.start.cfg.disturbBand : Int) < absDiff s.plate.load s.map.mTot)

/-- A condition has lasted for the settle time since `from`. -/
def State.lasted (s : State) (since : Nat) : Bool := decide (s.start.cfg.settleTime ≤ s.plate.clock - since)

/-- R163: the condition becomes disturbed. -/
def State.becomeDisturbed (s : State) : State :=
  ((s.setPlate { s.plate with disturbed := true, disturbFrom := none, clearFrom := none }).raise .plateDisturbed).addHold .disturbed

/-- R163: the condition returns to not disturbed. -/
def State.endDisturbed (s : State) : State :=
  (s.setPlate { s.plate with disturbed := false, disturbFrom := none, clearFrom := none }).removeHold .disturbed

/-- R163: the disturbance test at a sample. -/
def State.disturbTest (s : State) : State :=
  let p := s.plate
  if !p.disturbApplies then s
  else if p.disturbed then
    if s.outsideBand then s.setPlate { p with clearFrom := none }
    else
      match p.clearFrom with
      | none => s.setPlate { p with clearFrom := some p.clock }
      | some t => if s.lasted t then s.endDisturbed else s
  else
    if s.outsideBand then
      match p.disturbFrom with
      | none => s.setPlate { p with disturbFrom := some p.clock }
      | some t => if s.lasted t then s.becomeDisturbed else s
    else s.setPlate { p with disturbFrom := none }

/-- R165: a channel is over its limit. -/
def State.overLimit (s : State) : Bool :=
  s.plate.masses.any (fun m => decide (((s.start.cfg.channelLimitKg * 1000 : Nat) : Int) < m))

/-- R165: the overload condition ends. -/
def State.endOverload (s : State) : State :=
  (s.setPlate { s.plate with overload := false, overClearFrom := none }).removeHold .overload

/-- R165: the overload test at a sample. -/
def State.overloadTest (s : State) : State :=
  let p := s.plate
  if p.overload then
    if s.overLimit then s.setPlate { p with overClearFrom := none }
    else
      match p.overClearFrom with
      | none => s.setPlate { p with overClearFrom := some p.clock }
      | some t => if s.lasted t then s.endOverload else s
  else if s.overLimit then ((s.setPlate { p with overload := true, overClearFrom := none }).raise .overload).addHold .overload
  else s

/-- R166: the quiet timer restarts at a sample whose load left the quiet reference by more than the settle band. -/
def State.quietTest (s : State) : State :=
  if (s.start.cfg.settleBand : Int) < absDiff s.plate.load s.plate.quietRef then s.setPlate (s.plate.restartQuiet s.start.cfg) else s

/-- R166: the quiet timer runs: it has been started and has not run out. -/
def Plate.quietRuns (p : Plate) : Bool := p.quietLeft.any (fun left => decide (0 < left))

/-- R166: the sampling mode for the next sample. -/
def State.chosenMode (s : State) : SamplingMode :=
  let p := s.plate
  if p.quietRuns || decide (p.state = .taring) || p.watching || p.evidence.isSome || p.disturbFrom.isSome ||
      p.clearFrom.isSome || p.overClearFrom.isSome then .active
  else if p.state = .tared ∧ s.phase ≠ some .ended then .watch
  else .rest

/-- R154: baseline tracking after a sample, in ABSENT. -/
def State.trackBaselines (s : State) : State :=
  if s.plate.state = .absent then
    s.setPlate { s.plate with b := List.zipWith (trackBaseline s.start.cfg.gain) s.plate.f s.plate.b }
  else s

/-- R155: the tare is taken. -/
def State.takeTare (s : State) : State :=
  let p := s.plate
  let p1 := { p with b := p.f, state := .tared, taredAt := p.clock, lastSettled := 0, xm := 0, ym := 0, history := [] }
  s.setPlate ((p1.weigh s.start.cfg).restartQuiet s.start.cfg)

end Sys2Proof.Machine
end

