-- ==== Sys2Proof/Machine/Arm.lean ====
section
/-! DEFINITION. The arm port's operations: sending messages (R137, R147, R148), completing, losing and settling a command (R139,
R142 to R145), the plate's evidence (R160), a settled load (R152, R155, R157, R160) and the departure from TARED (R153). -/

namespace Sys2Proof.Machine

/-! ### Sending (R137, R147, R148) -/

/-- The bytes of a message, a report being composed now (R147, R148). -/
def State.messageBytes (s : State) : ArmMessage → List Byte
  | .command _ bytes => bytes
  | .statusReport => armFrame 0x20 s.reportBody
  | .mapRow row => armFrame 0x21 (s.mapRowBody row)

/-- R137: the next ready message begins when no message is on the line. -/
def State.armBegin (s : State) : State :=
  match s.arm.onLine, s.arm.ready with
  | none, m :: rest => s.setArm { s.arm with onLine := some (m, s.messageBytes m), ready := rest }
  | _, _ => s

/-- R137: a message becomes ready to send. -/
def State.sendReady (s : State) (m : ArmMessage) : State := (s.setArm { s.arm with ready := s.arm.ready ++ [m] }).armBegin

/-- The end of the message on the line; the next pending message may begin (R148). -/
def State.endMessage (s : State) : State := (s.setArm { s.arm with onLine := none }).armBegin

/-- The arm command of an action. -/
def Action.command : Action → ArmCommand
  | .place _ => .place
  | .setAside _ => .setAside
  | .ret => .ret

/-- The buffer position an action names (0 for none). -/
def Action.position : Action → Nat
  | .setAside b => b
  | _ => 0

/-- The line of the case `caseId` at a source; absent where the source does not hold that case (log 23, log 24). -/
def State.lineAtSource (s : State) (src : Source) (caseId : Option CaseId) : LineRef :=
  match s.caseAt src with
  | some r => if r.caseId = caseId then r.line else .absent
  | none => .absent

/-- R137, R128: the arm port takes a command composed from its result, the staging unit marks the case, the port enters AWAIT ACCEPT. -/
def State.issueCommand (s : State) (a : Action) (src : Source) (caseId : Option CaseId) : State :=
  let tag := s.arm.tag + 1
  let cmd : Outstanding :=
    { action := a, tag := tag, caseId := caseId, source := src, line := s.lineAtSource src caseId, progress := .sent }
  let s1 := s.setArm { s.arm with cmd := some cmd, tag := tag, port := .awaitAccept }
  (s1.markSource src caseId a.command).sendReady (.command tag (commandBytes a tag caseId src))

/-! ### Ends of a command -/

/-- The outstanding-command record removed. DESIGN CHOICE (log 53): the message of a command that a READY or a FAULT settles while it
still waits behind a report stays in the ready list, and is sent when its turn comes (R137). -/
def State.clearCmd (s : State) : State := s.setArm { s.arm with cmd := none }

/-- The progress of the outstanding command. -/
def State.setProgress (s : State) (p : Progress) : State :=
  s.setArm { s.arm with cmd := s.arm.cmd.map (fun c => { c with progress := p }) }

/-- The case of a command as the stack map and the plate know it (a stray is never placed). -/
def Outstanding.isPlace (c : Outstanding) : Bool :=
  match c.action with
  | .place _ => true
  | _ => false

/-- R142 for the case of a command: watch closed, rollback, out of staging, released LOST, line count, CASE LOST. -/
def State.loseCommand (s : State) (c : Outstanding) : State :=
  let s1 := match c.caseId, c.isPlace with
    | some id, true => (s.closeWatchOf id).rollback id
    | _, _ => s
  (((s1.removeCase c.source).releaseCase? c.caseId .lost).decreaseClaimed c.line).raise .caseLost

/-- R142 for a gripper case awaiting disposition. -/
def State.loseGripper (s : State) (g : Gripper) : State :=
  ((((s.setStaging (s.staging.without .gripper)).toldLeft .gripper).releaseCase? g.held.caseId .lost).decreaseClaimed g.held.line).raise .caseLost

/-- R129, R130, R139: a command completed: staging by the command, and the plate monitor told of a PLACE. -/
def State.completeCommand (s : State) (c : Outstanding) : State :=
  match c.action with
  | .place _ =>
    let s1 := s.removeCase c.source
    match c.caseId with
    | some id => s1.plateDone id
    | none => s1
  | .setAside b => s.moveToBuffer c.source b
  | .ret => s.returnCase c.source

/-- R143 HELD, R144: a PLACE that ended with the case in the gripper: watch closed without verdict, placement rolled back. -/
def State.undoPlace (s : State) (c : Outstanding) : State :=
  match c.caseId, c.isPlace with
  | some id, true => (s.closeWatchOf id).rollback id
  | _, _ => s

/-! ### Evidence (R145, R160) -/

/-- R145: the answer of the plate monitor acts on the outstanding PLACE; the watch closes and the record is removed. With
GAINED and no provisional placement left, the case is declared lost (R145 "Abort first"). -/
def State.answerEvidence (s : State) (c : Outstanding) (gained : Bool) : State :=
  let s0 := s.setPlate { s.plate with evidence := none, evidenceLeft := none }
  match c.caseId with
  | none => s0.clearCmd
  | some id =>
    if gained && (s0.provOf id).isSome then (((s0.commitPlanned id).closeWatchOf id).clearCmd).setFlag
    else ((s0.loseCommand c).clearCmd).setFlag

/-- R160: the running evidence request answered. -/
def State.endEvidence (s : State) (gained : Bool) : State :=
  match s.plate.evidence, s.arm.cmd with
  | some _, some c => s.answerEvidence c gained
  | some _, none => s.setPlate { s.plate with evidence := none, evidenceLeft := none }
  | none, _ => s

/-- R160: evidence asked for a PLACE whose provisional record is `p`. -/
def State.askEvidence (s : State) (c : Outstanding) (p : Provisional) : State :=
  let orphaned := match s.plate.watch with
    | some w => decide (w.caseId = p.caseId) && w.orphaned
    | none => false
  if s.plate.state ≠ .tared ∨ orphaned = true then s.answerEvidence c false
  else
    let r0 : Int := match s.plate.watch with
      | some w => if w.caseId = p.caseId then w.open0 else s.map.mTot
      | none => s.map.mTot
    s.setPlate { s.plate with
      evidence := some { caseId := p.caseId, m := p.m, r0 := r0, askedAt := s.plate.clock }
      evidenceLeft := some verifyTime
      restart := true
      disturbFrom := none
      clearFrom := none }

/-! ### Settling at a READY (R144, R145) -/

/-- R144: an UNKNOWN command settled as held. -/
def State.settleHeld (s : State) (c : Outstanding) : State := (((s.undoPlace c).holdInGripper c.source .ret).clearCmd)

/-- R145: an UNKNOWN command settled by an empty gripper. -/
def State.settleEmpty (s : State) (c : Outstanding) : State :=
  match c.action with
  | .setAside b => (s.moveToBuffer c.source b).clearCmd
  | .ret => (s.returnCase c.source).clearCmd
  | .place _ =>
    let s1 := (s.removeCase c.source).setProgress .resolving
    match c.caseId with
    | none => s1.clearCmd
    | some id =>
      match s1.provOf id with
      | some p => s1.askEvidence c p
      | none => ((s1.loseCommand c).clearCmd).setFlag

/-- R144, R145: the outstanding command settled by a gripper state. -/
def State.settleUnknown (s : State) (c : Outstanding) (g : GripperState) : State :=
  match g with
  | .holding => s.settleHeld c
  | .empty => s.settleEmpty c

/-! ### A settled load (R152, R155, R157, R160) -/

/-- R160: whether a settled load shows the gain of the evidence request. -/
def Evidence.gained (e : Evidence) (settled : Int) : Bool := decide (((e.m / 2 : Nat) : Int) ≤ settled - e.r0)

/-- R152: the plate is settled at the current load: it is kept, the tracker restarts, and taring, the verdict or the
evidence that waits for it follows. -/
def State.settledNow (s : State) : State :=
  let p := s.plate
  let s1 := s.setPlate { p with lastSettled := p.load, restart := true }
  if p.state = .taring then s1.takeTare
  else
    match p.watch, p.evidence with
    | some w, none =>
      if w.phase = WatchPhase.settling ∧ w.orphaned = false then s1.giveVerdict w (verdictOf w p.load s.start.cfg.massTol) else s1
    | _, some e => s1.endEvidence (e.gained p.load)
    | none, none => s1

/-- R157: the verify window has ended: a watch that settles gets the verdict UNSETTLED. -/
def State.verifyOver (s : State) : State :=
  match s.plate.watch with
  | some w => if w.phase = .settling then s.giveVerdict w .unsettled else s
  | none => s

/-- R157, R160: a window of 2,000 ms that began at `since` has ended before now, so that a settled load now is not within it. -/
def State.pastWindow (s : State) (since : Nat) : Bool := decide (since + verifyTime < s.plate.clock)

/-- R157, R160: what a sample finds of windows that have ended before it: the verdict UNSETTLED and the answer NOT GAINED (log 40). -/
def State.closeWindows (s : State) : State :=
  let s1 := if s.plate.watch.any (fun w => w.doneAt.any s.pastWindow) then s.verifyOver else s
  if s1.plate.evidence.any (fun e => s1.pastWindow e.askedAt) then s1.endEvidence false else s1

/-- R153, R159, R160: the departure from TARED: the watch orphaned (in SETTLING with NOT LANDED), a running evidence request
answered NOT GAINED, the disturbance ended without timing, the slip history emptied. -/
def State.leaveTared (s : State) : State :=
  let s1 := match s.plate.watch with
    | some w =>
      let s' := s.setPlate { s.plate with watch := some { w with orphaned := true } }
      if w.phase = WatchPhase.settling ∧ w.orphaned = false then s'.giveVerdict { w with orphaned := true } .notLanded else s'
    | none => s
  let s2 := s1.endEvidence false
  (s2.setPlate { s2.plate with disturbed := false, disturbFrom := none, clearFrom := none, history := [] }).removeHold .disturbed

end Sys2Proof.Machine
end

