-- ==== Sys2Proof/Machine/Planner.lean ====
section
/-! DEFINITION. The planner: planning figures (R37), the eight feasibility tests (R39 to R46), the choice of an action (R47 to
R53), the pass (R54 to R56), issuing a result (R57, R58) and the return of a gripper case under a hold (R60). -/

namespace Sys2Proof.Machine

/-! ### Planning figures and the staged set (R37, R47) -/

/-- R37: the planning figures of a case record; none for a case with no line of the build list. -/
def State.figuresOf (s : State) (r : CaseRecord) : Option Figures :=
  match r.line with
  | .counted n =>
    (s.lineAt n).map (fun l =>
      { m := plannedMass r.gate l, length := planFigure 50 800 r.gate.length l.length, width := planFigure 50 800 r.gate.width l.width,
        h := planFigure 20 600 r.gate.height l.height, crushClass := l.crushClass, rank := l.rank, faceLock := l.faceLock, line := n })
  | _ => none

/-- R48: the line of a case holds more cases, placed and staged, than it ordered. -/
def State.overLine (s : State) (l : LineRef) : Bool :=
  match l with
  | .counted n =>
    match s.lineAt n with
    | some rec => decide (rec.ordered < rec.placed + s.stagedForLine n)
    | none => false
  | _ => false

/-- R51: the line of a case is DONE or UNPLACEABLE. -/
def State.shutLine (s : State) (l : LineRef) : Bool :=
  match l with
  | .counted n =>
    match s.lineAt n with
    | some rec => decide (rec.status ≠ .lineOpen)
    | none => false
  | _ => false

/-- A case of the staged set as a pass reads it (R55). -/
def State.member (s : State) (src : Source) (r : CaseRecord) : Member :=
  { source := src, record := r, figures := s.figuresOf r, excess := s.overLine r.line, shut := s.shutLine r.line }

/-- R47, R120: a record carries the mark PLACE: its case is the placement in flight, in no staged set wherever it is held. -/
def CaseRecord.placing (r : CaseRecord) : Bool := decide (r.mark = some .place)

/-- R47, R124: the gripper case that awaits disposition. -/
def State.awaitingGripper (s : State) : Option Gripper :=
  s.staging.gripper.filter (fun g => g.awaiting && !g.held.placing)

/-- R47, R122: the lane's member of the staged set, none while the head carries a command mark. -/
def State.laneMember (s : State) : List Member :=
  match s.staging.lane with
  | r :: _ => if r.mark.isNone then [s.member .lane r] else []
  | [] => []

/-- R47: the members of the buffer table, positions ascending. -/
def State.bufferMembers (s : State) : List Member :=
  [1, 2, 3, 4].filterMap (fun b => ((s.staging.bufferAt b).filter (fun r => !r.placing)).map (fun r => s.member (.buffer b) r))

/-- R47: the staged set. A gripper case that awaits disposition is considered alone. -/
def State.stagedSet (s : State) : List Member :=
  match s.awaitingGripper with
  | some g => [s.member .gripper g.held]
  | none => s.laneMember ++ s.bufferMembers

/-! ### Feasibility (R39 to R46) -/

/-- R46: an axis of the centre-of-mass window, with the recovering allowance. -/
def axisPasses (after before : Int) (allowed : Nat) : Bool :=
  decide (after.natAbs ≤ allowed) || decide (after.natAbs ≤ before.natAbs)

/-- R46: an allowed half-width. -/
def halfWidth (base z : Nat) : Nat := max 40 (base - z / 16)

/-- R45, R46: the centre-of-mass test. -/
def State.centrePasses (s : State) (after : MassFigures) : Bool :=
  decide (after.m < s.start.cfg.comThresholdKg * 1000) ||
    (axisPasses after.x s.map.standing.x (halfWidth s.start.cfg.wx0 after.z) &&
      axisPasses after.y s.map.standing.y (halfWidth s.start.cfg.wy0 after.z))

/-- R43: a supporting cell's reserve covers the per-cell load. -/
def GridCell.bears (c : GridCell) (load : Nat) : Bool := decide (c.reserve = unlimited ∨ load ≤ c.reserve)

/-- R39: the eight tests of a candidate, in order; the rest height where it is feasible. -/
def State.feasible (s : State) (effHeight effLoad : Nat) (f : Figures) (c r : Nat) (turned : Bool) : Option Nat :=
  let code := s.codeInUse
  let lc := footColumns f.length f.width turned
  let wr := footRows f.length f.width turned
  if fitsAt code c r lc wr = false then none
  else
    let cells := (footprintCells code c r lc wr).map s.map.cellAt
    let rest := cells.foldl (fun m x => max m x.top) 0
    if effHeight < rest + f.h then none
    else
      let supporting := cells.filter (fun x => x.supports rest s.start.cfg.supportTol)
      let n := supporting.length
      if 100 * n < lc * wr * s.start.cfg.supportPct then none
      else if supporting.any (fun x => decide (x.rank + s.start.cfg.zoneSlack < f.rank)) then none
      else if supporting.any (fun x => !x.bears (ceilDiv f.m n)) then none
      else if effLoad < s.map.standing.m + f.m then none
      else if s.centrePasses (s.map.standing.plus f.m (centroidX code c lc) (centroidY code r wr) (centroidZ rest f.h)) then some rest
      else none

/-! ### The choice (R48 to R53) -/

/-- R50: the candidates of a case in scan order. -/
def scanOrder (code : Nat) (faceLock : Bool) : List (Nat × Nat × Bool) :=
  (List.range (gridRows code)).flatMap (fun r =>
    (List.range (gridColumns code)).flatMap (fun c => (orientations faceLock).map (fun o => (c, r, o))))

/-- R50: one more candidate against the best so far; only a lower rest replaces it. -/
def State.better (s : State) (effHeight effLoad : Nat) (f : Figures) (best : Option PlaceTarget) (x : Nat × Nat × Bool) : Option PlaceTarget :=
  match s.feasible effHeight effLoad f x.1 x.2.1 x.2.2 with
  | none => best
  | some rest =>
    let t : PlaceTarget :=
      { col := x.1, row := x.2.1, turned := x.2.2, lc := footColumns f.length f.width x.2.2, wr := footRows f.length f.width x.2.2,
        rest := rest, figures := f }
    match best with
    | none => some t
    | some b => if rest < b.rest then some t else some b

/-- R50: the best candidate of a case. -/
def State.bestPlace (s : State) (effHeight effLoad : Nat) (f : Figures) : Option PlaceTarget :=
  (scanOrder s.codeInUse f.faceLock).foldl (s.better effHeight effLoad f) none

/-- R121: the earlier of two staging times is the one the other is past. -/
def earlier (a b : ClockMs) : Bool := isPast b a

/-- R49: keys 1 to 4 of the case order. -/
def caseBefore (x y : Member) : Bool :=
  match x.figures, y.figures with
  | some a, some b =>
    if a.rank ≠ b.rank then decide (b.rank < a.rank)
    else if a.crushClass ≠ b.crushClass then decide (a.crushClass < b.crushClass)
    else if a.m ≠ b.m then decide (b.m < a.m)
    else earlier x.record.staged y.record.staged
  | _, _ => false

/-- R49: the case order. The members come lane first and buffers ascending, which a stable sort keeps as the fifth key. -/
def caseOrder (ms : List Member) : List Member := sortBy caseBefore ms

/-- R50: the first case in case order with a best candidate. -/
def State.firstPlace (s : State) (p : Pass) : List Member → Option (Action × Member)
  | [] => none
  | m :: ms =>
    match m.figures.bind (fun f => s.bestPlace p.effHeight p.effLoad f) with
    | some t => some (.place t, m)
    | none => s.firstPlace p ms

/-- R51: a staged case is hopeless. `won` holds the case's own mass, so that T + m is `won`. -/
def State.hopeless (s : State) (p : Pass) (m : Member) : Bool :=
  match m.figures with
  | none => false
  | some f =>
    decide (p.effHeight < f.h + p.lowest) || decide (p.effLoad < s.map.standing.m + p.won) ||
      !fitsSomewhere s.codeInUse f.length f.width f.faceLock || m.shut || decide (p.phase = some .closing)

/-- R52: the earliest staged of some members; of equal times, the first (log 25). -/
def earliest : List Member → Option Member
  | [] => none
  | m :: ms => some (ms.foldl (fun a b => if earlier b.record.staged a.record.staged then b else a) m)

/-- R52: the action where no case has a feasible candidate. DESIGN CHOICE (log 51): 'lane empty' is read of the staged set, so that
steps 5 and 6 apply to a lane whose head carries a command mark (R122), as to an empty one. -/
def State.fallback (s : State) (p : Pass) : Option (Action × Member) :=
  match p.members.find? (fun m => decide (m.source = .gripper)), p.members.find? (fun m => decide (m.source = .lane)) with
  | some g, _ => some (.ret, g)
  | none, some l =>
    if s.hopeless p l then some (.ret, l)
    else
      match p.freeBuffer with
      | some b => some (.setAside b, l)
      | none => (earliest p.members).map (fun m => (.ret, m))
  | none, none => (earliest (p.members.filter (s.hopeless p))).map (fun m => (.ret, m))

/-- R48: a case that cannot belong to this pallet. -/
def Member.outcast (m : Member) : Bool := m.figures.isNone || m.excess

/-- R47, R48, R50, R52, R53: the action that a pass chooses. -/
def State.choose (s : State) (p : Pass) : Option (Action × Member) :=
  if p.phase ≠ some .active ∨ p.disposition = .ret then p.members.head?.map (fun m => (.ret, m))
  else
    match p.members.find? Member.outcast with
    | some m => some (.ret, m)
    | none =>
      match s.firstPlace p (caseOrder p.members) with
      | some a => some a
      | none => s.fallback p

/-! ### The pass (R54, R55) -/

/-- The arm port is READY with no command outstanding. -/
def State.armFree (s : State) : Bool := decide (s.arm.port = .ready) && s.arm.cmd.isNone

/-- R54: a pass starts now. -/
def State.canStart (s : State) : Bool :=
  s.planner.flag && s.planner.pass.isNone && s.planner.result.isNone && !s.planner.holds.any && !s.stagedSet.isEmpty &&
    (s.armFree || (s.active && s.map.prov.isSome))

/-- The lowest-numbered free buffer position (R52). -/
def State.freeBuffer (s : State) : Option Nat := [1, 2, 3, 4].find? (fun b => (s.staging.bufferAt b).isNone)

/-- R55: the inputs that a pass reads when it starts. -/
def State.passInputs (s : State) : Pass where
  age := 0
  members := s.stagedSet
  phase := s.phase
  disposition := match s.awaitingGripper with
    | some g => g.disposition
    | none => .none
  freeBuffer := s.freeBuffer
  effHeight := match s.job.record with
    | some r => r.effHeight
    | none => 0
  effLoad := match s.job.record with
    | some r => r.effLoad
    | none => 0
  lowest := s.lowestTop
  won := s.wonMass
  prior := s.map.prov.map (fun p => p.caseId)

/-- R54: the pass starts and the flag is cleared. -/
def State.startPass (s : State) : State := s.setPlanner { s.planner with flag := false, pass := some s.passInputs }

/-! ### Issuing (R57, R58, R60) -/

/-- R57: a result issued. For a PLACE the stack map writes first, and a refused write discards the result. -/
def State.issueResult (s : State) (r : PlanResult) : State :=
  let s0 := s.setPlanner { s.planner with result := none }
  match r.action with
  | .place t =>
    match r.caseId.bind (fun c => s0.writeRequest c t) with
    | some mp => ((s0.setMap mp).setFlag).issueCommand r.action r.source r.caseId
    | none => s0.setFlag
  | _ => s0.issueCommand r.action r.source r.caseId

/-- R55 to R58: the end of a pass. Its result is discarded under a hold, held where it was planned over a provisional
placement, and else issued or discarded. -/
def State.endPass (s : State) (p : Pass) : State :=
  let s0 := s.setPlanner { s.planner with pass := none }
  match s.choose p with
  | none => s0
  | some (a, m) =>
    let r : PlanResult := { action := a, caseId := m.record.caseId, source := m.source, prior := p.prior, released := false }
    if s.planner.holds.any then s0.setFlag
    else if p.prior.isSome then s0.setPlanner { s0.planner with result := some r }
    else if s.armFree then s0.issueResult r
    else s0.setFlag

/-- R58: a released result is issued as soon as the arm port is READY with no command and no hold stands. -/
def State.issueReleased (s : State) : State :=
  match s.planner.result with
  | some r => if r.released ∧ s.armFree = true ∧ s.planner.holds.any = false then s.issueResult r else s
  | none => s

/-- R60: under a hold, a READY port with a gripper case that awaits disposition returns it at once. -/
def State.returnHeld (s : State) : State :=
  match s.awaitingGripper with
  | some g => if s.planner.holds.any && s.armFree then s.issueCommand .ret .gripper g.held.caseId else s
  | none => s

end Sys2Proof.Machine
end

