-- ==== Sys2Proof/Machine/Close.lean ====
section
/-! DEFINITION. What follows every command inside its step: results that may now go out, the drain test and the contention for
an idle line (R16, R58, R60, R69, R70; log 4, log 6), and the passing of time (00 "Timers"; log 1, log 2). -/

namespace Sys2Proof.Machine

/-! ### Contention (R70, R93) -/

/-- The first frame that `p` holds of set SENDING. -/
def markSending (p : TxFrame → Bool) : List TxFrame → List TxFrame
  | [] => []
  | f :: fs => if p f then { f with sending := true } :: fs else f :: markSending p fs

/-- The first WAITING frame of the queue. -/
def Bus.firstWaiting (b : Bus) : Option TxFrame := b.queue.find? (fun f => !f.sending)

/-- R4: the bid state as the own ADOPT begins or returns to waiting. It is that of the offer record with the frame's job id, be the
frame of an older bid for the job (DESIGN CHOICE, log 54). -/
def State.setBid (s : State) (j : JobId) (b : BidState) : State :=
  s.setJob { s.job with offer := s.job.offer.map (fun o => if o.job = j then { o with bid := b } else o) }

/-- R70: the first WAITING frame begins; for an ADOPT the bid state becomes SENDING (R4). -/
def State.beginSending (s : State) (f : TxFrame) : State :=
  let s1 := s.setBus { s.bus with queue := markSending (fun g => !g.sending) s.bus.queue, idle := false, drive := .recessive }
  match f.payload with
  | .adopt j => s1.setBid j .sending
  | _ => s1

/-- R70, R93: WAITING frames considered from the head onward. A CLAIM that no longer stands is removed and its claim expires. -/
def State.chooseFrame : Nat → State → State
  | 0, s => s
  | n + 1, s =>
    match s.bus.firstWaiting with
    | none => s
    | some f =>
      match f.payload with
      | .claim c lap =>
        if s.claimStands c lap then s.beginSending f
        else State.chooseFrame n ((s.setBus { s.bus with queue := removeFirst (fun g => !g.sending) s.bus.queue }).claimLost c lap)
      | _ => s.beginSending f

/-- R69, R70, R77: the contention, made whenever the line is idle, in line mode FULL, with no frame SENDING. -/
def State.contend (s : State) : State :=
  if s.bus.mode = .full ∧ s.bus.idle = true ∧ s.bus.sendingFrame = none then State.chooseFrame s.bus.queue.length s else s

/-- What ends every step that may have changed the port, the holds, staging, the map or the queue (log 6). -/
def State.finish (s : State) : State := (s.issueReleased.returnHeld.drainTest).contend

/-! ### Time (00 "Timers", R121, R150; log 1, log 2) -/

/-- The part runs: the configuration has been read (R177). -/
def State.running (s : State) : Bool := decide (s.start.state ≠ .starting)

/-- `d` ms pass: clocks advance once the part runs (R121, R149), running timers run down, a pass in flight grows older. -/
def State.elapse (s : State) (d : Nat) : State :=
  { s with
    start := { s.start with join := runDown d s.start.join }
    job := { s.job with record := s.job.record.map (fun r => { r with stall := runDown d r.stall, collect := runDown d r.collect }) }
    planner := { s.planner with pass := s.planner.pass.map (fun p => { p with age := p.age + d }) }
    travel := { s.travel with windowLeft := runDown d s.travel.windowLeft }
    staging := { s.staging with clock := if s.running then s.staging.clock + BitVec.ofNat 32 d else s.staging.clock }
    arm := { s.arm with acceptTimer := runDown d s.arm.acceptTimer, doneTimer := runDown d s.arm.doneTimer }
    plate := { s.plate with
      clock := if s.running then s.plate.clock + d else s.plate.clock
      sampleLeft := runDown d s.plate.sampleLeft
      verifyLeft := runDown d s.plate.verifyLeft
      evidenceLeft := runDown d s.plate.evidenceLeft
      quietLeft := runDown d s.plate.quietLeft }
    events := { s.events with status := runDown d s.events.status, holdoff := runDown d s.events.holdoff } }

/-- The effect of an expiry: nothing while the timer is stopped (00 "Timers"), else the time left passes and `f` is the effect (log 2). -/
def State.atExpiry (s : State) (timer : Option Nat) (f : State → State) : State :=
  match timer with
  | none => s
  | some left => f (s.elapse left)

end Sys2Proof.Machine
end

