-- ==== Sys2Proof/Machine/ArmMessages.lean ====
section
/-! DEFINITION. The meanings of the arm port's messages, timers and ends of sending (R134 to R148). While the reset line is held
the port takes nothing (R175). -/

namespace Sys2Proof.Machine

/-- An effect that a held reset line keeps away (R175). -/
def State.unheld (s : State) (f : State → State) : State := if s.start.held then s else f s

/-- R138: an unexpected message is counted. -/
def State.countUnexpected (s : State) : State := s.setArm { s.arm with unexpected := sat8 s.arm.unexpected }

/-- R136: READY reported to the planner, but for one that finds a command outstanding still (R145). -/
def State.tellReady (s : State) : State := if s.arm.cmd.isNone then s.setFlag else s

/-! ### READY (R136, R144, R145) -/

/-- R136: the last gripper state compared with the gripper record, with no command outstanding (R132, R142). -/
def State.compareGripper (s : State) : State :=
  if s.arm.cmd.isSome then s
  else
    match s.arm.gripper, s.staging.gripper with
    | .holding, none => s.takeInGripper
    | .empty, some g => if g.awaiting then s.loseGripper g else s
    | _, _ => s

/-- The port state set. -/
def State.setPort (s : State) (p : PortState) : State := s.setArm { s.arm with port := p }

/-- R136: READY by port state. -/
def State.readyByPort (s : State) (g : GripperState) : State :=
  match s.arm.port, s.arm.cmd with
  | .offline, _ => s.setPort .ready
  | .ready, _ => s
  | .stopped, some c =>
    let s1 := (s.setPort .ready).removeHold .armStopped
    if c.progress = .unknown then s1.settleUnknown c g else s1
  | .stopped, none => (s.setPort .ready).removeHold .armStopped
  | _, some c =>
    let s1 := s.setArm { s.arm with acceptTimer := none, doneTimer := none, port := .ready }
    ((s1.setProgress .unknown).raise .armTimeout).settleUnknown c g
  | _, none => (s.setArm { s.arm with acceptTimer := none, doneTimer := none, port := .ready })

/-- R136: a READY taken. -/
def State.takeReady (s : State) (g : GripperState) : State :=
  (((s.setArm { s.arm with gripper := g }).readyByPort g).tellReady).compareGripper.finish

/-- READY (R136). -/
def execReady (gripper : GripperState) (s : State) : Host.Outcome State Fault Refusal := goes (s.unheld (fun s => s.takeReady gripper))

/-! ### ACCEPT and DONE (R138, R139) -/

/-- R138, R156: the watch that a PLACE's ACCEPT opens. -/
def State.watchFor (s : State) (c : Outstanding) : State :=
  match c.action, c.caseId with
  | .place t, some id => s.openWatch id c.line t.figures.m
  | _, _ => s

/-- R138: a matching ACCEPT in AWAIT ACCEPT. -/
def State.accepted (s : State) (c : Outstanding) : State :=
  let s1 := s.setArm { s.arm with acceptTimer := none, doneTimer := some (s.start.cfg.doneTimeout * 1000), port := .busy }
  (((s1.setProgress .accepted).acceptMove c.source c.action.command c.action.position).watchFor c)

/-- R138: an ACCEPT taken. -/
def State.takeAccept (s : State) (tag : Byte) : State :=
  match s.arm.port, s.arm.cmd with
  | .awaitAccept, some c => if c.tag = tag then (s.accepted c).finish else s.countUnexpected
  | _, _ => s.countUnexpected

/-- ACCEPT (R138). -/
def execAccept (tag : Byte) (s : State) : Host.Outcome State Fault Refusal := goes (s.unheld (fun s => s.takeAccept tag))

/-- R139: a matching DONE in BUSY. -/
def State.done (s : State) (c : Outstanding) : State :=
  ((((s.setArm { s.arm with doneTimer := none, cmd := none, port := .ready }).completeCommand c)).setFlag)

/-- R139: a DONE taken. -/
def State.takeDone (s : State) (tag : Byte) : State :=
  match s.arm.port, s.arm.cmd with
  | .busy, some c => if c.tag = tag then (s.done c).finish else s.countUnexpected
  | _, _ => s.countUnexpected

/-- DONE (R139). -/
def execDone (tag : Byte) (s : State) : Host.Outcome State Fault Refusal := goes (s.unheld (fun s => s.takeDone tag))

/-! ### FAULT (R141, R143) -/

/-- R141: the fault number recorded and ARM FAULT raised. -/
def State.recordFault (s : State) (number : BitVec 16) : State := (s.setArm { s.arm with lastFault := number }).raise .armFault

/-- R141: the port enters STOPPED, its timers stop, and ARM STOPPED is added. -/
def State.stopPort (s : State) : State :=
  (s.setArm { s.arm with port := .stopped, acceptTimer := none, doneTimer := none }).addHold .armStopped

/-- R143: a FAULT in BUSY. -/
def State.faultBusy (s : State) (c : Outstanding) (d : FaultDisposition) : State :=
  match d with
  | .held => (((s.undoPlace c).holdInGripper c.source .rePlan).clearCmd)
  | .atTarget => s.clearCmd.completeCommand c
  | .lost => (s.loseCommand c).clearCmd

/-- R143: a FAULT in AWAIT ACCEPT. -/
def State.faultAwaiting (s : State) (c : Outstanding) (d : FaultDisposition) : State :=
  match d with
  | .held =>
    (((s.acceptMove c.source c.action.command c.action.position).holdInGripper c.source .rePlan).undoPlace c).clearCmd
  | .atTarget => s.setProgress .unknown
  | .lost => (s.loseCommand c).clearCmd

/-- R143: a FAULT in READY with no command outstanding. -/
def State.faultIdle (s : State) (d : FaultDisposition) : State :=
  match d, s.staging.gripper with
  | .lost, some g => if g.awaiting then s.loseGripper g else s
  | _, _ => s

/-- R141: a FAULT taken. -/
def State.takeFault (s : State) (tag : Byte) (d : FaultDisposition) (number : BitVec 16) : State :=
  match s.arm.port, s.arm.cmd with
  | .offline, _ => s.countUnexpected
  | .ready, none => ((s.recordFault number).stopPort.faultIdle d).finish
  | .ready, some _ => (s.recordFault number).stopPort.finish
  | .stopped, _ => (s.recordFault number).finish
  | .awaitAccept, some c =>
    if c.tag = tag then ((s.recordFault number).stopPort.faultAwaiting c d).finish else s.countUnexpected
  | .busy, some c =>
    if c.tag = tag then ((s.recordFault number).stopPort.faultBusy c d).finish else s.countUnexpected
  | _, none => s.countUnexpected

/-- FAULT (R141). -/
def execFault (tag : Byte) (disposition : FaultDisposition) (number : BitVec 16) (s : State) : Host.Outcome State Fault Refusal :=
  goes (s.unheld (fun s => s.takeFault tag disposition number))

/-! ### Timers (R137, R140) -/

/-- R140: the outstanding command's timer has expired. -/
def State.armTimedOut (s : State) : State := (((s.setProgress .unknown).stopPort).raise .armTimeout).finish

/-- ACCEPT_TIMEOUT (R140). -/
def execAcceptTimeout (s : State) : Host.Outcome State Fault Refusal :=
  goes (if s.arm.port = .awaitAccept then s.atExpiry s.arm.acceptTimer State.armTimedOut else s)

/-- DONE_TIMEOUT (R140). -/
def execDoneTimeout (s : State) : Host.Outcome State Fault Refusal :=
  goes (if s.arm.port = .busy then s.atExpiry s.arm.doneTimer State.armTimedOut else s)

/-! ### Holds (R146) -/

/-- HOLD (R146). -/
def execHold (s : State) : Host.Outcome State Fault Refusal := goes (s.unheld (fun s => (s.addHold .operator).finish))

/-- CLEAR_HOLD (R146). -/
def execClearHold (s : State) : Host.Outcome State Fault Refusal :=
  goes (s.unheld (fun s => ((s.removeHold .operator).removeHold .slip).finish))

/-! ### Requests and malformed messages (R134, R147, R148) -/

/-- A STATUS REPORT waits to be sent. -/
def ArmMessage.isStatus : ArmMessage → Bool
  | .statusReport => true
  | _ => false

/-- A MAP ROW REPORT waits to be sent. -/
def ArmMessage.isRow : ArmMessage → Bool
  | .mapRow _ => true
  | _ => false

/-- R147: a STATUS REQUEST taken. -/
def State.askStatus (s : State) : State := if s.arm.ready.any ArmMessage.isStatus then s else s.sendReady .statusReport

/-- STATUS_REQUEST (R147). -/
def execStatusRequest (s : State) : Host.Outcome State Fault Refusal := goes (s.unheld State.askStatus)

/-- The message on the line is a MAP ROW REPORT. -/
def ArmPort.rowOnLine (a : ArmPort) : Bool :=
  match a.onLine with
  | some m => m.1.isRow
  | none => false

/-- R148: a MAP ROW REQUEST taken. -/
def State.askRow (s : State) (row : Byte) : State :=
  if s.arm.ready.any ArmMessage.isRow ∨ s.arm.mapRowHeld.isSome then s.countUnexpected
  else if s.arm.rowOnLine then s.setArm { s.arm with mapRowHeld := some row }
  else s.sendReady (.mapRow row)

/-- MAP_ROW_REQUEST (R148). -/
def execMapRowRequest (row : Byte) (s : State) : Host.Outcome State Fault Refusal := goes (s.unheld (fun s => s.askRow row))

/-- MALFORMED_MESSAGE (R134). -/
def execMalformedMessage (code length : Byte) (body : List Byte) (check : BitVec 16) (s : State) : Host.Outcome State Fault Refusal :=
  goes (s.unheld (fun s =>
    if armMalformed code length body check then s.setArm { s.arm with malformed := sat8 s.arm.malformed } else s))

/-! ### Ends of sending (R137, R147, R148) -/

/-- R137: the last byte of the command `tag` has been sent: the accept timer starts, while its ACCEPT is awaited (log 32). -/
def State.startAccept (s : State) (tag : Byte) : State :=
  match s.arm.cmd with
  | some c => if c.tag = tag ∧ s.arm.port = .awaitAccept then s.setArm { s.arm with acceptTimer := some acceptTime } else s
  | none => s

/-- COMMAND_SENT (R137). -/
def execCommandSent (s : State) : Host.Outcome State Fault Refusal :=
  goes (match s.arm.onLine with
  | some (.command tag _, _) => (s.startAccept tag).endMessage
  | _ => s)

/-- STATUS_REPORT_SENT (R147, R169): every latched flag is cleared. -/
def execStatusReportSent (s : State) : Host.Outcome State Fault Refusal :=
  goes (match s.arm.onLine with
  | some (.statusReport, _) => (s.setEvents { s.events with latched := 0 }).endMessage
  | _ => s)

/-- R148: a row asked for while a MAP ROW REPORT was on the line becomes pending. -/
def ArmPort.takeHeldRow (a : ArmPort) : ArmPort :=
  match a.mapRowHeld with
  | some row => { a with ready := a.ready ++ [.mapRow row], mapRowHeld := none }
  | none => a

/-- MAP_ROW_REPORT_SENT (R148). -/
def execMapRowReportSent (s : State) : Host.Outcome State Fault Refusal :=
  goes (match s.arm.onLine with
  | some (.mapRow _, _) => (s.setArm s.arm.takeHeldRow).endMessage
  | _ => s)

end Sys2Proof.Machine
end

