-- ==== Sys2Proof/Machine/Hearing.lean ====
section
/-! DEFINITION. Frames on the line: the veto history and the mute state (R74 to R76), the ends of an own attempt (R71, R72), and
how a frame is heard (R64 to R67). -/

namespace Sys2Proof.Machine

/-! ### Frames seen (R74 to R76) -/

/-- R74: one more frame seen, of the last 32; the line is then not idle (log 14). -/
def Bus.see (b : Bus) (vetoed good : Bool) : Bus :=
  { b with history := lastN 32 (b.history ++ [{ vetoed := vetoed, good := good }]), idle := false }

/-- R75: the number of entries marked vetoed by the part. -/
def Bus.vetoedCount (b : Bus) : Nat := (b.history.filter (fun e => e.vetoed)).length

/-- R75, R76: the mute state after a frame seen. -/
def State.muteTest (s : State) : State :=
  if s.bus.muted then
    if 32 ≤ s.bus.consecutiveGood then s.setBus { s.bus with muted := false } else s
  else if 16 ≤ s.bus.vetoedCount then (s.setBus { s.bus with muted := true }).raise .vetoMuted
  else s

/-- R74 to R76: a frame seen, with what the part drove for it. -/
def State.frameSeen (s : State) (vetoed good : Bool) (drive : LineDrive) : State :=
  (s.setBus { s.bus.see vetoed good with drive := drive }).muteTest

/-- R77: the part receives: in line mode LISTEN or FULL, from the first idle it has found on the line. -/
def Bus.hears (b : Bus) : Bool := decide (b.mode ≠ .off) && b.receiving

/-- R64, R76: the part may drive vetoes, echoes and breaks as a receiver. -/
def State.mayVeto (s : State) : Bool :=
  !s.bus.muted && (decide (s.bus.mode = .full) || (decide (s.bus.mode = .listen) && s.start.station.isSome))

/-! ### Ends of an own attempt (R71, R72) -/

/-- R71: the waiting CELL STATUS moves into the status place. -/
def State.pendingIn (s : State) : State :=
  match s.bus.pendingStatus with
  | some f => s.setBus { s.bus.dropStatus.place (.status f) 0 with pendingStatus := none }
  | none => s

/-- R69, R71: a frame has left the queue, and its place is taken by what waits for it. -/
def State.placeFreed (s : State) (p : TxPayload) : State :=
  match p.group with
  | .claimGroup => s
  | .statusPlace => s.pendingIn
  | .reportGroup => s.offerReports

/-- R71: the owner of a frame returned to waiting is told; a waiting CELL STATUS replaces one returned. A returned ADOPT acts on the bid
of its job id, be it a newer bid (DESIGN CHOICE, log 54). -/
def State.tellReturned (s : State) (p : TxPayload) : State :=
  match p with
  | .claim c lap => s.claimReturned c lap
  | .adopt j => s.setBid j .queued
  | .status _ => s.pendingIn
  | _ => s

/-- R71: the frame SENDING goes back to WAITING at its place in the order, with a veto count. -/
def State.backToWaiting (s : State) (f : TxFrame) (vetoes : Nat) : State :=
  (s.setBus { s.bus with
    queue := s.bus.queue.map (fun g => if g.sending then { g with sending := false, vetoes := vetoes } else g) }).tellReturned f.payload

/-- R62, R71: an attempt that lost arbitration. -/
def State.lostAttempt (s : State) : State :=
  match s.bus.sendingFrame with
  | some f => (s.setBus { s.bus with idle := false, drive := .recessive }).backToWaiting f f.vetoes
  | none => s

/-- The frame SENDING out of the queue. -/
def State.takeSending (s : State) : State := s.setBus { s.bus with queue := removeFirst (fun g => g.sending) s.bus.queue }

/-- R72: the owner of a dropped frame is told (R4, R94). DESIGN CHOICE (log 54): a dropped ADOPT empties the offer record that holds its
job id, be it of a newer bid for that job, and no other record. -/
def State.tellDropped (s : State) (p : TxPayload) : State :=
  match p with
  | .claim c lap => s.claimLost c lap
  | .adopt j =>
    match s.job.offer with
    | some o => if o.job = j then s.clearOffer else s
    | none => s
  | _ => s

/-- R72: the frame SENDING is dropped. -/
def State.dropFrame (s : State) (p : TxPayload) : State := (((s.takeSending).placeFreed p).tellDropped p).raise .busTrouble

/-- R64, R76: what the part drives at the end of its own attempt, unless muted: it echoes a veto bit it reads, as every station
does, and at a clash or a break, which falls on its own recessive bits, it drives a break (log 19). -/
def attemptAnswer (how : VoidCause) (muted : Bool) : LineDrive :=
  if muted then .recessive
  else
    match how with
    | .veto => .echo
    | .echoOnly => .recessive
    | .brk => .brk
    | .clash => .brk

/-- R63, R74: a frame voided in its slot was read whole, and is good at the part; one cut off by a break or a clash is not. -/
def voidedInSlot (how : VoidCause) : Bool := decide (how = .veto ∨ how = .echoOnly)

/-- R64, R71, R72, R74: an own attempt voided. -/
def State.voidAttempt (s : State) (f : TxFrame) (how : VoidCause) : State :=
  let s1 := s.frameSeen false (voidedInSlot how) (attemptAnswer how s.bus.muted)
  if 8 ≤ f.vetoes + 1 then s1.dropFrame f.payload else s1.backToWaiting f (f.vetoes + 1)

/-! ### Hearing (R65, R67) -/

/-- R67: a frame refused. -/
def State.countRefused (s : State) : State := s.setBus { s.bus with refused := sat8 s.bus.refused }

/-- R65, R71: the own frame SENDING is heard: it leaves the queue, its place is freed, and the block's effect `k` follows. A row
that names another payload than the frame SENDING is no frame of the part's, and has no effect (log 16). -/
def State.hearOwn (s : State) (p : TxPayload) (k : State → State) : State :=
  match s.bus.sendingFrame with
  | some f =>
    if f.payload = p then (k (((s.takeSending).frameSeen false true .recessive).placeFreed p)).finish else s
  | none => s

/-- R64, R65, R67: another station's frame is accepted; `k` is the effect of the blocks it is passed to. It is refused where its
sender field is 0 or 31. An own attempt runs on to its own end (R71, R73; log 15). Nothing is received before R77 lets it be. -/
def State.hearOther (s : State) (sender : Station) (k : State → State) : State :=
  if s.bus.hears then
    let s1 := s.frameSeen false true .recessive
    (if sender = 0 ∨ sender = 31 then s1.countRefused else k s1).finish
  else s

/-- A frame of either origin, whose own payload is `p`. -/
def State.hear (s : State) (origin : Origin) (p : TxPayload) (own : State → State) (other : Station → State → State) : State :=
  match origin with
  | .own => s.hearOwn p own
  | .other sender => s.hearOther sender (other sender)

end Sys2Proof.Machine
end

