-- ==== Sys2Proof/Machine/CaseFrames.lean ====
section
/-! DEFINITION. The meanings of the case frames (R82 to R84, R90, R91, R96), of CELL STATUS (R98, R174, R179) and of the other
events on the line (R63, R64, R67, R70, R71). -/

namespace Sys2Proof.Machine

/-! ### CASE SIGHT (R80 to R84) -/

/-- R80: a gate figure: 0 is not measured, else it is clamped. -/
def gateFigure (lo hi x : Nat) : Nat := if x = 0 then 0 else clamp lo hi x

/-- R80: the entry a CASE SIGHT makes, accepted at the running travel. -/
def State.sightingOf (s : State) (caseId : CaseId) (product : ProductCode) (mass length width height : BitVec 16) (lap : Byte)
    (age : BitVec 16) : Sighting where
  caseId := caseId
  product := product
  gate := { mass := gateFigure 1 65000 mass.toNat, length := gateFigure 50 800 length.toNat,
            width := gateFigure 50 800 width.toNat, height := gateFigure 20 600 height.toNat }
  lap := min 15 lap.toNat
  arrival := s.travel.count - BitVec.ofNat 32 age.toNat + BitVec.ofNat 32 s.start.cfg.divertOffset
  state := .free
  queued := false
  line := .absent

/-- R84: the old entry of a re-sighted case settled by its state. -/
def State.settleOld (s : State) (e : Sighting) : State :=
  match e.state with
  | .free => s.dropSighting e.caseId
  | .theirs _ => s.dropSighting e.caseId
  | .claiming => (s.setBus (s.bus.withdraw (isClaimOf e.caseId))).dropSighting e.caseId
  | _ => (((s.dropDivert e.caseId).decreaseClaimed e.line).raise .divertMissed).dropSighting e.caseId

/-- R81: an entry placed in arrival order. -/
def State.placeSighting (s : State) (e : Sighting) : State :=
  s.setClaim { s.claim with
    sightings := insertBy (fun x y => decide (travelDiff x.arrival s.travel.count < travelDiff y.arrival s.travel.count)) e s.claim.sightings }

/-- R80, R81: the claim state THEIRS. -/
def ClaimState.isTheirs : ClaimState → Bool
  | .theirs _ => true
  | _ => false

/-- R82 step 5, R83: a sighting recorded, where a place is free or can be made, and decided (R86). -/
def State.recordSighting (s : State) (e : Sighting) : State :=
  if s.claim.sightings.length < 16 then (s.placeSighting e).decideClaim e.caseId
  else
    match s.claim.sightings.find? (fun x => x.state.isTheirs) with
    | some x => ((s.dropSighting x.caseId).placeSighting e).decideClaim e.caseId
    | none => s.raise .sightingDropped

/-- R82: a CASE SIGHT at the claim engine. -/
def State.takeSight (s : State) (e : Sighting) : State :=
  if s.holdsCase e.caseId then s.raise .idClash
  else
    let s1 := match s.sighting e.caseId with
      | some old => s.settleOld old
      | none => s
    if e.product ∈ s1.claim.interest then
      if s1.passedBy e then s1 else s1.recordSighting e
    else s1

/-- CASE_SIGHT (R82). -/
def execCaseSight (sender : Station) (caseId : CaseId) (product : ProductCode) (mass length width height : BitVec 16) (lap : Byte)
    (age : BitVec 16) (s : State) : Host.Outcome State Fault Refusal :=
  goes (s.hearOther sender (fun s => s.takeSight (s.sightingOf caseId product mass length width height lap age)))

/-! ### CLAIM (R90, R91, R92, R94) -/

/-- R10: an own CLAIM heard counted by the job unit; the case's line is handed back. -/
def State.countClaim (s : State) (e : Sighting) : State × LineRef :=
  match s.phase, s.candidateLine e.product with
  | some .active, some nl => (s.updLine nl.1 (fun l => { l with claimed := l.claimed + 1 }), .counted nl.1)
  | some .closing, some nl => (s.updLine nl.1 (fun l => { l with claimed := l.claimed + 1 }), .counted nl.1)
  | _, _ => (s, .surplus)

/-- R91: the own CLAIM of a CLAIMING entry heard. DESIGN CHOICE (log 50): the count change is told, and FREE entries are re-examined
(R86), before the entry is handed to the divert unit. -/
def State.winCase (s : State) (e : Sighting) : State :=
  let counted := s.countClaim e
  let won : Sighting := { e with state := .ours, queued := false, line := counted.2 }
  let s1 := counted.1.updSighting e.caseId (fun _ => won)
  let s2 := if counted.2 = .surplus then s1 else s1.countsChanged
  let s3 := s2.joinDivert won
  if s3.active then s3 else s3.cancelOne e.caseId

/-- R90 to R92, R94: an own CLAIM heard at the claim engine. In a state other than CLAIMING it is heard second: it is ignored, and the
flag becomes no. DESIGN CHOICE (log 52): so too for an entry that the claimant's RELEASE has made FREE since the CLAIM began, which
R90 says does not arise; the part does not own that case. -/
def State.ownClaim (s : State) (c : CaseId) (lap : Nat) : State :=
  match s.sighting c with
  | none => s.releaseCase c .missed
  | some e =>
    if e.lap ≠ lap then s
    else
      match e.state with
      | .claiming => s.winCase e
      | _ => s.updSighting c (fun e => { e with queued := false })

/-- R90, R92: another station's CLAIM heard at the claim engine. -/
def State.otherClaim (s : State) (sender : Station) (c : CaseId) (lap : Nat) : State :=
  match s.sighting c with
  | none => s
  | some e =>
    if e.lap ≠ lap then s
    else
      match e.state with
      | .free => s.updSighting c (fun e => { e with state := .theirs sender })
      | .claiming => (s.updSighting c (fun e => { e with state := .theirs sender })).withdrawClaim c
      | _ => s

/-- CLAIM (R90). The lap is clamped to its range (R1). -/
def execClaim (origin : Origin) (caseId : CaseId) (lap : Byte) (s : State) : Host.Outcome State Fault Refusal :=
  goes (s.hear origin (.claim caseId lap) (fun s => s.ownClaim caseId (min 15 lap.toNat))
    (fun sender s => s.otherClaim sender caseId (min 15 lap.toNat)))

/-! ### RELEASE (R96) -/

/-- R96: a RELEASE that the entry does not concern is counted. -/
def State.countForeign (s : State) : State := s.setClaim { s.claim with foreign := sat8 s.claim.foreign }

/-- R96: another station's case-form RELEASE at the claim engine. DESIGN CHOICE (log 49): an entry made FREE while an own CLAIM of its
case that has begun is still on the line keeps its flag until the attempt ends (R92), and is decided all the same. -/
def State.otherRelease (s : State) (sender : Station) (c : CaseId) (reason : Byte) : State :=
  match s.sighting c with
  | none => s
  | some e =>
    if e.state = .theirs sender then
      if reason = ReleaseReason.returned.code ∨ reason = ReleaseReason.lost.code then s.dropSighting c
      else (s.updSighting c (fun e => { e with state := .free })).decideClaim c
    else s.countForeign

/-- RELEASE (R96). One of own origin is ignored. -/
def execRelease (origin : Origin) (caseId : CaseId) (reason : Byte) (s : State) : Host.Outcome State Fault Refusal :=
  goes (s.hear origin (.release caseId reason) id (fun sender s => s.otherRelease sender caseId reason))

/-! ### CELL STATUS (R98, R174, R179) -/

/-- R98: a peer entry overwritten from a CELL STATUS. The cell state is clamped to its codes (log 33). -/
def peerOf (f : StatusFields) : Peer where
  heard := true
  cellState := min 8 f.cellState.toNat
  divertOffset := f.offset10.toNat * 10
  starving := f.flags.getLsbD 0
  wanted := f.wanted.take 3
  age := 0

/-- R179: another station uses the part's own number. -/
def State.duplicate (s : State) : State :=
  match s.start.state with
  | .joining => (s.setStart { s.start with lockout := true }).raise .duplicateStation
  | .idle =>
    if s.start.lockout then s.raise .duplicateStation
    else ((((s.setStart { s.start with lockout := true }).raise .duplicateStation).withdrawBid some).withdrawClaims)
  | _ => s

/-- R67, R78, R98: another station's CELL STATUS. -/
def State.otherStatus (s : State) (sender : Station) (f : StatusFields) : State :=
  if s.start.station = some sender then s.duplicate
  else s.setClaim { s.claim with peers := s.claim.peers.set (sender.toNat - 1) (peerOf f) }

/-- CELL_STATUS (R98, R174, R179). An own one heard starts the holdoff timer. -/
def execCellStatus (origin : Origin) (status : StatusFields) (s : State) : Host.Outcome State Fault Refusal :=
  goes (s.hear origin (.status status) (fun s => s.setEvents { s.events with holdoff := some holdoffTime })
    (fun sender s => s.otherStatus sender status))

/-! ### The other events on the line -/

/-- REFUSED_FRAME (R67): an accepted frame of a kind, length or sender that is refused. -/
def execRefusedFrame (kind : BitVec 4) (sender : Station) (length : BitVec 6) (s : State) : Host.Outcome State Fault Refusal :=
  goes (if frameRefused kind sender length.toNat && s.bus.hears then
    ((s.frameSeen false true .recessive).countRefused).finish
  else s)

/-- R63, R64, R76: a damaged frame. Where the part may veto it drives the veto, or a break; a break inside the arbitration field
makes no entry in the history (R74). Else the frame is discarded at the part's side alone and entered as not vetoed (log 18). -/
def State.damaged (s : State) (check inField : Bool) : State :=
  if s.mayVeto then
    if check then s.frameSeen true false .vetoAndEcho
    else if inField then s.setBus { s.bus with drive := .brk, idle := false }
    else s.frameSeen true false .brk
  else s.frameSeen false false .recessive

/-- DAMAGED_FRAME (R63, R64). -/
def execDamagedFrame (levels : List Bool) (s : State) : Host.Outcome State Fault Refusal :=
  goes (if s.bus.hears then
    match takeIn levels with
    | .badCheck => (s.damaged true false).finish
    | .badLength => (s.damaged false false).finish
    | .missingFill inField => (s.damaged false inField).finish
    | _ => s
  else s)

/-- VOIDED_FRAME (R64, R74): another station's frame that some other receiver voided. A veto bit read dominant is echoed where the
part may drive; an echo bit read dominant alone is not. A frame cut off by a break is not good at the part. DESIGN CHOICE (log 18):
the six equal levels of another receiver's break call for no second break by the part, and are no damage that it vetoes. -/
def execVoidedFrame (how : VoidCause) (s : State) : Host.Outcome State Fault Refusal :=
  goes (if s.bus.hears && decide (how ≠ .clash) then
    (s.frameSeen false (voidedInSlot how) (if how = .veto ∧ s.mayVeto = true then .echo else .recessive)).finish
  else s)

/-- LINE_IDLE (R70, R77). The line is found idle in line mode LISTEN or FULL, while the part sends nothing: it receives from now on,
and in FULL its frames contend. -/
def execLineIdle (s : State) : Host.Outcome State Fault Refusal :=
  goes (if s.bus.mode = .off ∨ s.bus.sendingFrame ≠ none then s
  else ((s.setBus { s.bus with idle := true, receiving := true, drive := .recessive }).contend).finish)

/-- LOST_ARBITRATION (R71). -/
def execLostArbitration (s : State) : Host.Outcome State Fault Refusal :=
  goes (if s.bus.sendingFrame = none then s else s.lostAttempt.finish)

/-- ATTEMPT_VOIDED (R71, R72). -/
def execAttemptVoided (how : VoidCause) (s : State) : Host.Outcome State Fault Refusal :=
  goes (match s.bus.sendingFrame with
  | some f => (s.voidAttempt f how).finish
  | none => s)

end Sys2Proof.Machine
end

