-- ==== Sys2Proof/Machine/Field.lean ====
section
/-! DEFINITION. The meanings of the field-line and belt-speed commands: pallet-present (R17, R20, R153), encoder counts (R103 to
R105), the lane eye (R116, R118) and the speed windows (R107 to R111). -/

namespace Sys2Proof.Machine

/-! ### Pallet-present (R153) -/

/-- R153: the plate at a rise: ABSENT becomes TARING, the settle tracker and the quiet timer restart (R155, R166). -/
def State.plateRise (s : State) : State :=
  if s.running ∧ s.plate.state = .absent then
    s.setPlate (({ s.plate with state := .taring }.restartSettle).restartQuiet s.start.cfg)
  else s

/-- PALLET_PRESENT_RISE (R153). -/
def execPalletPresentRise (s : State) : Host.Outcome State Fault Refusal :=
  goes ((s.setPins { s.pins with palletPresent := true }).plateRise)

/-- R153: the plate at a fall: ABSENT, with what the departure from TARED does there and at a bid (R4). -/
def State.plateFall (s : State) : State :=
  if s.running then
    let s1 := if s.plate.state = .tared then s.leaveTared.withdrawBid some else s
    s1.setPlate { s1.plate with state := .absent }
  else s

/-- PALLET_PRESENT_FALL (R153, R17, R20): the plate monitor first, then the job unit (log 30). -/
def execPalletPresentFall (s : State) : Host.Outcome State Fault Refusal :=
  goes ((((s.setPins { s.pins with palletPresent := false }).plateFall).jobPalletFall).finish)

/-! ### Counting travel (R103 to R105) -/

/-- R104: a forward count. -/
def TravelUnit.forward (t : TravelUnit) (step r : Nat) : TravelUnit :=
  let a := t.rem + step
  let um := t.um + a / r
  { t with rem := a % r, um := um % 1000, count := t.count + BitVec.ofNat 32 (um / 1000), window := t.window + (a / r : Nat) }

/-- R105: a reverse count. `borrow` is the number of whole micrometres taken. -/
def TravelUnit.reverse (t : TravelUnit) (step r : Nat) : TravelUnit :=
  let borrow := if step ≤ t.rem then 0 else ceilDiv (step - t.rem) r
  let u : Int := (t.um : Int) - (borrow : Nat)
  { t with rem := t.rem + borrow * r - step, um := (u % 1000).toNat, count := t.count + BitVec.ofInt 32 (u / 1000),
           window := t.window - (borrow : Nat) }

/-- What follows a count: where the running travel changed, the tests of R85 and R113 to R117. -/
def State.counted (s : State) (t : TravelUnit) : State :=
  let s1 := s.setTravel t
  if t.count = s.travel.count then s1 else s1.travelChanged.finish

/-- FORWARD_COUNT (R103, R104). No counts are taken in STARTING (R102). -/
def execForwardCount (s : State) : Host.Outcome State Fault Refusal :=
  let s1 := s.setPins { s.pins with encoder := s.pins.encoder + 1 }
  goes (if s.running then s1.counted (s.travel.forward s.start.cfg.step s.start.cfg.readR) else s1)

/-- REVERSE_COUNT (R103, R105). -/
def execReverseCount (s : State) : Host.Outcome State Fault Refusal :=
  let s1 := s.setPins { s.pins with encoder := s.pins.encoder - 1 }
  goes (if s.running then s1.counted (s.travel.reverse s.start.cfg.step s.start.cfg.readR) else s1)

/-- ENCODER_SKIP (R103): both lines change, nothing is counted, the next change is judged from the new state. -/
def execEncoderSkip (s : State) : Host.Outcome State Fault Refusal :=
  goes (s.setPins { s.pins with encoder := s.pins.encoder + 2 })

/-! ### The lane eye (R116, R118, R125) -/

/-- R116, R125: a case confirmed: out of the schedule and the sighting table, into the lane. -/
def State.confirm (s : State) (e : DivertEntry) : State :=
  match s.sighting e.caseId with
  | some x => ((s.dropDivert e.caseId).dropSighting e.caseId).joinLane x
  | none => (s.dropDivert e.caseId).strayAtLane

/-- R116, R118: a case start. -/
def State.laneStart (s : State) : State :=
  match s.divert.find? s.confirmable with
  | some e => s.confirm e
  | none => s.strayAtLane

/-- CASE_START (R116). The eye is watched from the end of STARTING. -/
def execCaseStart (s : State) : Host.Outcome State Fault Refusal :=
  let s1 := s.setPins { s.pins with laneBlocked := true }
  goes (if s.running then s1.laneStart.finish else s1)

/-- LANE_EYE_CLEAR (R116): no effect but the level of the eye itself. -/
def execLaneEyeClear (s : State) : Host.Outcome State Fault Refusal := goes (s.setPins { s.pins with laneBlocked := false })

/-! ### The speed tracker (R107 to R111) -/

/-- R107: the measured speed of a window. -/
def measuredSpeed (window : Int) : Nat := if 0 < window then min 65535 (window.toNat / 20) else 0

/-- R107: the stop run after a window. -/
def nextStopRun (stopRun vm : Nat) : Nat := if vm = 0 then min 25 (stopRun + 1) else 0

/-- R108, R109: a step of the estimate by 1/`d` of its error, truncated. -/
def stepSpeed (v vm d : Nat) : Nat := ((v : Int) + ((vm : Int) - v).tdiv d).toNat

/-- R108: a lock window. -/
def lockWindow (v vm : Nat) : Bool := decide (0 < vm) && decide (((vm : Int) - v).natAbs ≤ v / 32)

/-- R111: the lock state changed: the event, then the claim engine (R86) and the divert unit (R113). -/
def State.lockChanged (s : State) : State :=
  let s1 := s.raise .lockChanged
  if s1.travel.lock = .locked then s1.reexamine else s1

/-- R110: the entry to STOPPED. -/
def State.stopBelt (s : State) : State :=
  ((s.setTravel { s.travel with lock := .stopped, v := 0, lockRun := 0 }).lockChanged).raise .beltStopped

/-- R108: the lock run reaches 8. -/
def State.lockOn (s : State) : State := (s.setTravel { s.travel with lock := .locked, lockRun := 0 }).lockChanged

/-- R108 steps 2 and 3: a window of acquisition. -/
def State.acquire (s : State) (vm : Nat) : State :=
  let t := s.travel
  let run := if lockWindow t.v vm then t.lockRun + 1 else 0
  let s1 := s.setTravel { t with lockRun := run, v := stepSpeed t.v vm 2 }
  if 8 ≤ run then s1.lockOn else s1

/-- R109: a window of tracking, with the loss of lock. -/
def State.trackSpeed (s : State) (vm : Nat) : State :=
  let t := s.travel
  if t.v / 8 < ((vm : Int) - t.v).natAbs then
    (s.setTravel { t with vHold := t.v, lock := .unlocked, lockRun := 0, v := stepSpeed t.v vm 2 }).lockChanged
  else s.setTravel { t with v := stepSpeed t.v vm 16 }

/-- R108 to R110: a window taken by the lock state, the stop run already updated. -/
def State.windowBy (s : State) (vm : Nat) : State :=
  match s.travel.lock with
  | .unlocked => if 25 ≤ s.travel.stopRun then s.stopBelt else s.acquire vm
  | .locked => s.trackSpeed vm
  | .stopped =>
    if vm = 0 then s
    else (((s.setTravel { s.travel with lock := .unlocked, lockRun := 0 }).lockChanged).acquire vm)

/-- R107, R113: the end of a speed window, with the lead formed anew and its tests. -/
def State.windowEnd (s : State) : State :=
  let vm := measuredSpeed s.travel.window
  let t := { s.travel with window := 0, stopRun := nextStopRun s.travel.stopRun vm, windowLeft := some speedWindowTime }
  ((((s.setTravel t).windowBy vm).divertTests).passSightings).finish

/-- SPEED_WINDOW_END (R107). -/
def execSpeedWindowEnd (s : State) : Host.Outcome State Fault Refusal := goes (s.atExpiry s.travel.windowLeft State.windowEnd)

/-- LOCK_ACQUIRED (R108): the speed window in hand ends, where that makes the lock run 8 in UNLOCKED (log 3). -/
def execLockAcquired (s : State) : Host.Outcome State Fault Refusal :=
  let t := s.travel
  let vm := measuredSpeed t.window
  goes (if t.lock = .unlocked ∧ 7 ≤ t.lockRun ∧ lockWindow t.v vm = true then s.atExpiry t.windowLeft State.windowEnd else s)

/-- ENTER_STOPPED (R110): the speed window in hand ends, where that makes the stop run 25 in UNLOCKED (log 3). -/
def execEnterStopped (s : State) : Host.Outcome State Fault Refusal :=
  let t := s.travel
  let vm := measuredSpeed t.window
  goes (if t.lock = .unlocked ∧ 24 ≤ t.stopRun ∧ vm = 0 then s.atExpiry t.windowLeft State.windowEnd else s)

end Sys2Proof.Machine
end

