-- ==== Sys2Proof/Machine/JobFrames.lean ====
section
/-! DEFINITION. The meanings of the job frames (R3 to R7, R15), of the frames passed to no block (R67), and of the job unit's
timers and drain (R8, R14, R16, R20). -/

namespace Sys2Proof.Machine

/-! ### Timers and drain -/

/-- R8: the collect timer has expired in COLLECTING: the job is abandoned. -/
def State.collectExpired (s : State) : State :=
  match s.job.record with
  | some r => if r.phase = .collecting then ((s.clearJob.releaseJobForm r.job).raise .jobAbandoned).finish else s
  | none => s

/-- COLLECT_TIMEOUT (R8). -/
def execCollectTimeout (s : State) : Host.Outcome State Fault Refusal :=
  goes (s.atExpiry (s.job.record.bind (fun r => r.collect)) State.collectExpired)

/-- R14: the stall timer has expired in ACTIVE. -/
def State.stallExpired (s : State) : State := if s.active then (s.enterClosing .short).finish else s

/-- STALL_TIMEOUT (R14). -/
def execStallTimeout (s : State) : Host.Outcome State Fault Refusal :=
  goes (s.atExpiry (s.job.record.bind (fun r => r.stall)) State.stallExpired)

/-- DRAIN_COMPLETE (R16, R20): the drain test is made (log 4). -/
def execDrainComplete (s : State) : Host.Outcome State Fault Refusal := goes (s.drainTest.finish)

/-! ### JOB CANCEL, JOB OFFER, JOB LINE, ADOPT -/

/-- R4: a JOB CANCEL at the offer record. -/
def State.cancelBid (s : State) (job : JobId) : State :=
  match s.job.offer with
  | some o => if o.job = job then s.withdrawBid (fun o => some { o with cancelled := true }) else s
  | none => s

/-- R4, R15: a JOB CANCEL at the job unit: a matching job closes, else a matching bid is withdrawn or marked. -/
def State.cancelJob (s : State) (job : JobId) : State :=
  match s.job.record with
  | some r =>
    if r.job = job then
      match r.phase with
      | .collecting => s.enterClosing .cancelled
      | .active => s.enterClosing .cancelled
      | _ => s
    else s.cancelBid job
  | none => s.cancelBid job

/-- JOB_CANCEL (R15). -/
def execJobCancel (sender : Station) (job : JobId) (s : State) : Host.Outcome State Fault Refusal :=
  goes (s.hearOther sender (fun s => s.cancelJob job))

/-- R3: the conditions to bid for an offer. -/
def State.mayBid (s : State) (footprint : Byte) : Bool :=
  decide (s.start.state = .idle) && s.start.station.isSome && !s.start.lockout && s.job.record.isNone && s.job.offer.isNone &&
    decide (s.plate.state = .tared) && decide (footprint.toNat = s.start.cfg.footprint)

/-- R3: the urgency of an ADOPT. -/
def State.adoptUrgency (s : State) : Nat := 127 - min 127 ((s.plate.clock - s.plate.taredAt) / 1000)

/-- R3: a JOB OFFER at the job unit. The line is not idle at the end of the frame that carries it, so the ADOPT waits and the bid
state is QUEUED. -/
def State.takeOffer (s : State) (job : JobId) (lineCount footprint : Byte) (heightLimit loadLimit : BitVec 16) : State :=
  if s.mayBid footprint then
    match s.bus.tryQueue (.adopt job) s.adoptUrgency with
    | some b =>
      (s.setBus b).setJob { s.job with
        offer := some { job := job, lineCount := clamp 1 64 lineCount.toNat, footprint := footprint.toNat,
                        heightLimit := heightLimit.toNat, loadLimit := loadLimit.toNat, bid := .queued, cancelled := false } }
    | none => s
  else s

/-- JOB_OFFER (R3). -/
def execJobOffer (sender : Station) (job : JobId) (lineCount footprint : Byte) (heightLimit loadLimit : BitVec 16) (s : State) :
    Host.Outcome State Fault Refusal :=
  goes (s.hearOther sender (fun s => s.takeOffer job lineCount footprint heightLimit loadLimit))

/-- R6: a line record from the clamped fields of a JOB LINE. -/
def lineOf (product : ProductCode) (ordered mass length width height : BitVec 16) (crushClass rank faceLock : Byte) : LineRec where
  product := product
  ordered := min 999 ordered.toNat
  mass := clamp 1 65000 mass.toNat
  length := clamp 50 800 length.toNat
  width := clamp 50 800 width.toNat
  height := clamp 20 600 height.toNat
  crushClass := min 7 crushClass.toNat
  rank := min 15 rank.toNat
  faceLock := decide (faceLock ≠ 0)
  claimed := 0
  placed := 0
  status := .lineOpen

/-- R7: a job frame ignored. -/
def State.countIgnored (s : State) : State := s.setJob { s.job with ignored := sat8 s.job.ignored }

/-- R6, R7, R9: a JOB LINE at the job unit. -/
def State.takeLine (s : State) (job : JobId) (n : Nat) (l : LineRec) : State :=
  match s.job.record with
  | none => s
  | some r =>
    if r.job ≠ job then s
    else if r.phase ≠ .collecting ∨ r.lineCount ≤ n then s.countIgnored
    else
      let s1 := s.setJob { s.job with lines := s.job.lines.set n (some l) }
      if s1.linesComplete r then s1.activate r else s1

/-- JOB_LINE (R6). -/
def execJobLine (sender : Station) (job : JobId) (line : Byte) (product : ProductCode) (ordered mass length width height : BitVec 16)
    (crushClass rank faceLock : Byte) (s : State) : Host.Outcome State Fault Refusal :=
  goes (s.hearOther sender (fun s => s.takeLine job line.toNat (lineOf product ordered mass length width height crushClass rank faceLock)))

/-- R5: the own ADOPT heard. One that has outlived its bid decides a newer bid for the same job (DESIGN CHOICE, log 54). -/
def State.ownAdopt (s : State) (job : JobId) : State :=
  match s.job.offer with
  | none => s
  | some o =>
    if o.job ≠ job then s
    else if s.job.record.isNone && decide (s.plate.state = .tared) && !s.start.lockout && !o.cancelled then s.adoptJob o
    else s.abandonBid o

/-- R4: another station's ADOPT heard. -/
def State.otherAdopt (s : State) (job : JobId) : State :=
  match s.job.offer with
  | some o => if o.job = job then s.withdrawBid (fun _ => none) else s
  | none => s

/-- ADOPT (R5). -/
def execAdopt (origin : Origin) (job : JobId) (s : State) : Host.Outcome State Fault Refusal :=
  goes (s.hear origin (.adopt job) (fun s => s.ownAdopt job) (fun _ s => s.otherAdopt job))

/-! ### Frames passed to no block (R67) -/

/-- RELEASE_JOB_FORM (R67). -/
def execReleaseJobForm (origin : Origin) (job : JobId) (reason : Byte) (s : State) : Host.Outcome State Fault Refusal :=
  goes (s.hear origin (.releaseJob job reason) id (fun _ => id))

/-- JOB_END (R67). -/
def execJobEnd (origin : Origin) (job : JobId) (outcome : Byte) (placed loadKg : BitVec 16) (short : Byte) (s : State) :
    Host.Outcome State Fault Refusal :=
  goes (s.hear origin (.jobEnd job outcome placed loadKg short) id (fun _ => id))

/-- SHORT_LINE (R67). -/
def execShortLine (origin : Origin) (job : JobId) (line : Byte) (quantity : BitVec 16) (s : State) : Host.Outcome State Fault Refusal :=
  goes (s.hear origin (.shortLine job line quantity) id (fun _ => id))

end Sys2Proof.Machine
end

