-- ==== Sys2Proof/Machine/PlateEvents.lean ====
section
/-! DEFINITION. The meanings of the plate commands (R150, R152, R157, R160, R163, R165, R166). -/

namespace Sys2Proof.Machine

/-! ### The sample (R150) -/

/-- R150, R151: the filters, masses and load at a scan, with the shift of the mode in force. The next sample is due after that
mode's period (log 27). -/
def Plate.scan (p : Plate) (cfg : Params) (raw : List RawCount) : Plate :=
  { p with f := filtered p.f (rawCounts raw) p.mode.shift, sampleLeft := some p.mode.period }.weigh cfg

/-- R152: the settle tracker at a sample, and what a settled load starts. -/
def State.settleTest (s : State) : State :=
  let r := s.plate.track s.start.cfg
  let s1 := s.setPlate r.1
  if r.2 then s1.settledNow else s1

/-- R166: the sampling mode chosen for the next sample. -/
def State.chooseMode (s : State) : State := s.setPlate { s.plate with mode := s.chosenMode }

/-- R150, R151: the figures of a sample, taken after the windows that have ended before it (R157, R160). -/
def State.figures (s : State) (raw : List RawCount) : State :=
  let s1 := s.closeWindows
  (s1.setPins { s1.pins with bridge := raw }).setPlate (s1.plate.scan s1.start.cfg raw)

/-- R150: the tests made on the figures of a sample in the order of log 26, then the mode and the baselines (R154). -/
def State.sampleTests (s : State) : State :=
  ((((((s.centreTest).disturbTest).overloadTest).quietTest).settleTest).chooseMode).trackBaselines.finish

/-- R150: a sample whole. -/
def State.sample (s : State) (raw : List RawCount) : State := (s.figures raw).sampleTests

/-- PLATE_SAMPLE (R150). Before the first scan no sample is taken (R149). -/
def execPlateSample (scan : List RawCount) (s : State) : Host.Outcome State Fault Refusal :=
  goes (s.atExpiry s.plate.sampleLeft (fun s => s.sample scan))

/-- R150: the sample in hand, of the bridge inputs as last read, where its figures meet a test that only a sample can make; else no
effect. Conditions that last are met only at a sample (log 3). -/
def State.sampleMeeting (s : State) (meets : State → Bool) : State :=
  s.atExpiry s.plate.sampleLeft (fun u => if meets (u.figures s.pins.bridge) then u.sample s.pins.bridge else s)

/-! ### Settling and the windows (R152, R157, R160) -/

/-- PLATE_SETTLED (R152): the sample in hand, where it finds the plate settled. -/
def execPlateSettled (s : State) : Host.Outcome State Fault Refusal :=
  goes (s.sampleMeeting (fun w => (w.plate.track w.start.cfg).2))

/-- VERIFY_WINDOW_END (R157). -/
def execVerifyWindowEnd (s : State) : Host.Outcome State Fault Refusal :=
  goes (s.atExpiry s.plate.verifyLeft (fun s => s.verifyOver.finish))

/-- EVIDENCE_WINDOW_END (R160): the answer is NOT GAINED. -/
def execEvidenceWindowEnd (s : State) : Host.Outcome State Fault Refusal :=
  goes (s.atExpiry s.plate.evidenceLeft (fun s => (s.endEvidence false).finish))

/-! ### Disturbance, overload and quiet (R163, R165, R166) -/

/-- R163, R165: a timing runs, and the settle time has elapsed since it began. -/
def State.timedOut (s : State) (timing : Option Nat) : Bool := timing.any s.lasted

/-- DISTURBANCE_TIMING_EXPIRY (R163): the sample in hand, where it finds the plate disturbed. -/
def execDisturbanceTimingExpiry (s : State) : Host.Outcome State Fault Refusal :=
  goes (s.sampleMeeting (fun w =>
    w.plate.disturbApplies && !w.plate.disturbed && w.outsideBand && w.timedOut w.plate.disturbFrom))

/-- DISTURBANCE_CLEARING_EXPIRY (R163): the sample in hand, where it finds the disturbance ended. -/
def execDisturbanceClearingExpiry (s : State) : Host.Outcome State Fault Refusal :=
  goes (s.sampleMeeting (fun w =>
    w.plate.disturbApplies && w.plate.disturbed && !w.outsideBand && w.timedOut w.plate.clearFrom))

/-- OVERLOAD_CLEARING_EXPIRY (R165): the sample in hand, where it finds the overload ended. -/
def execOverloadClearingExpiry (s : State) : Host.Outcome State Fault Refusal :=
  goes (s.sampleMeeting (fun w => w.plate.overload && !w.overLimit && w.timedOut w.plate.overClearFrom))

/-- QUIET_TIMER_EXPIRY (R166): the timer stops and no longer holds the mode in ACTIVE. -/
def execQuietTimerExpiry (s : State) : Host.Outcome State Fault Refusal :=
  goes (s.atExpiry s.plate.quietLeft (fun s => s.setPlate { s.plate with quietLeft := none }))

end Sys2Proof.Machine
end

