-- ==== Sys2Proof/Machine/Starting.lean ====
section
/-! DEFINITION. The meanings of the reset and start-up commands (R149, R175 to R178). -/

namespace Sys2Proof.Machine

/-! ### Reset (R175) -/

/-- R175: the straps as read: 1 to 30 is the station number, 0 and 31 leave it none. -/
def stationOf (straps : BitVec 5) : Option Station := if straps = 0 ∨ straps = 31 then none else some straps

/-- R175: every block in its reset state. The input levels and the queue of commands are not the part's and stay (log 8). -/
def State.resetBlocks (s : State) : State := (State.reset.setPins s.pins).setPending s.pending

/-- R175: the part after power-on or the release of the reset line, with the straps read. DESIGN CHOICE (log 8): a POWER_ON_RESET
that comes while the reset line is held clears the held mark and starts the part, as the release does. -/
def State.startUp (s : State) (straps : BitVec 5) : State :=
  s.resetBlocks.setStart { StartCtl.reset with station := stationOf straps }

/-- POWER_ON_RESET (R175). -/
def execPowerOnReset (straps : BitVec 5) (s : State) : Host.Outcome State Fault Refusal := goes (s.startUp straps)

/-- RESET_LINE (R175): the same effects as power-on reset, at the release of the line. -/
def execResetLine (straps : BitVec 5) (s : State) : Host.Outcome State Fault Refusal := goes (s.startUp straps)

/-- RESET_LINE_ASSERTED (R175): every operation is abandoned and the part stays in reset while the line is held. -/
def execResetLineAsserted (s : State) : Host.Outcome State Fault Refusal :=
  goes (s.resetBlocks.setStart { StartCtl.reset with held := true })

/-! ### The end of STARTING (R149, R176, R177) -/

/-- R149: the first scan. The filters and baselines take the raw counts, the load reads 0, and the plate state follows the
pallet-present input. -/
def Plate.firstScan (p : Plate) (cfg : Params) (scan : List RawCount) (present : Bool) : Plate :=
  let p1 := { p with f := rawCounts scan, b := rawCounts scan, state := if present then .uncertain else .absent,
                     restart := false, runStart := p.clock }
  let p2 := p1.weigh cfg
  { p2 with ref := p2.load, quietRef := p2.load, sampleLeft := some SamplingMode.rest.period }

/-- R177: what the station number decides: JOINING with the join timer, or UNNUMBERED with the status timer (R172). -/
def State.leaveStarting (s : State) : State :=
  match s.start.station with
  | some _ => s.setStart { s.start with state := .joining, join := some (2 * s.start.cfg.statusPeriod) }
  | none => (s.setStart { s.start with state := .unnumbered }).setEvents { s.events with status := some s.start.cfg.statusPeriod }

/-- R176, R177: the configuration read ends with the configuration `cfg`. -/
def State.configure (s : State) (cfg : Params) (scan : List RawCount) : State :=
  let s1 := s.setStart { s.start with cfg := cfg }
  let s2 := s1.setBus { s1.bus with mode := .listen, rate := some cfg.bitRate, receiving := false }
  let s3 := s2.setTravel { s2.travel with windowLeft := some speedWindowTime }
  let s4 := s3.setPins { s3.pins with bridge := scan }
  let s5 := (s4.setPlate (s4.plate.firstScan cfg scan s4.pins.palletPresent)).leaveStarting
  s5.setPlate { s5.plate with mode := s5.chosenMode }

/-- R176: CONFIG DEFAULTED, raised at the end of the read under the default class table. -/
def State.raiseDefaulted (s : State) (memory : Option (List Byte)) : State :=
  if Params.defaulted memory then s.raiseAs (EventClass.defaults.getD EventKind.configDefaulted.number .off) .configDefaulted else s

/-- CONFIGURATION_READ_END (R176, R177). The read ends only in STARTING with the reset line released. -/
def execConfigurationReadEnd (memory : Option (List Byte)) (scan : List RawCount) (s : State) : Host.Outcome State Fault Refusal :=
  goes (if s.start.state = .starting ∧ s.start.held = false then
    (((s.raiseDefaulted memory).configure (Params.read memory) scan).finish)
  else s)

/-! ### Leaving JOINING (R178) -/

/-- R178: the entry to IDLE: line mode FULL, the status timer runs, and the first CELL STATUS is queued (R172). -/
def State.enterIdle (s : State) : State :=
  let s1 := s.setStart { s.start with state := .idle, join := none }
  let s2 := s1.setBus { s1.bus with mode := .full }
  (s2.setEvents { s2.events with status := some s2.start.cfg.statusPeriod }).queueStatusNow

/-- JOIN_TIMER_EXPIRY (R178). -/
def execJoinTimerExpiry (s : State) : Host.Outcome State Fault Refusal :=
  goes (if s.start.state = .joining then s.atExpiry s.start.join (fun s => s.enterIdle.finish) else s)

end Sys2Proof.Machine
end

