-- ==== Sys2Proof/Machine/Timed.lean ====
section
/-! DEFINITION. The meanings of the planner's commands (R54 to R56) and of the event unit's timers (R98, R172, R173). -/

namespace Sys2Proof.Machine

/-- PLANNING_PASS_START (R54). -/
def execPlanningPassStart (s : State) : Host.Outcome State Fault Refusal := goes (if s.canStart then s.startPass else s)

/-- PLANNING_PASS_END (R55). -/
def execPlanningPassEnd (s : State) : Host.Outcome State Fault Refusal :=
  goes (match s.planner.pass with
  | some p => (s.endPass p).finish
  | none => s)

/-- R98: a peer entry at an expiry of the status period. -/
def Peer.aged (p : Peer) : Peer := if p.heard then { p with age := min 3 (p.age + 1) } else p

/-- R172: what an expiry of the status timer does, in order. -/
def State.statusDue (s : State) : State :=
  let s1 := s.setEvents { s.events with status := some s.start.cfg.statusPeriod }
  let s2 := (s1.setClaim { s1.claim with peers := s1.claim.peers.map Peer.aged }).queueStatusNow
  (s2.setEvents { s2.events with prompt := false }).finish

/-- STATUS_TIMER_EXPIRY (R172). -/
def execStatusTimerExpiry (s : State) : Host.Outcome State Fault Refusal := goes (s.atExpiry s.events.status State.statusDue)

/-- R173: what an expiry of the holdoff timer does. -/
def State.holdoffOver (s : State) : State :=
  let s1 := s.setEvents { s.events with holdoff := none }
  if s1.events.prompt then ((s1.queueStatusNow).setEvents { s1.events with prompt := false }).finish else s1

/-- HOLDOFF_EXPIRY (R173). -/
def execHoldoffExpiry (s : State) : Host.Outcome State Fault Refusal := goes (s.atExpiry s.events.holdoff State.holdoffOver)

end Sys2Proof.Machine
end

