-- ==== Sys2Proof/Machine/Dispatch.lean ====
section
/-! DEFINITION. One arm per command: the meaning it calls. -/

namespace Sys2Proof.Machine

def exec (i : Instr) (s : State) : Host.Outcome State Fault Refusal :=
  match i with
  | .powerOnReset straps => Sys2Proof.Machine.execPowerOnReset straps s
  | .resetLine straps => Sys2Proof.Machine.execResetLine straps s
  | .resetLineAsserted => Sys2Proof.Machine.execResetLineAsserted s
  | .configurationReadEnd memory scan => Sys2Proof.Machine.execConfigurationReadEnd memory scan s
  | .joinTimerExpiry => Sys2Proof.Machine.execJoinTimerExpiry s
  | .palletPresentRise => Sys2Proof.Machine.execPalletPresentRise s
  | .palletPresentFall => Sys2Proof.Machine.execPalletPresentFall s
  | .forwardCount => Sys2Proof.Machine.execForwardCount s
  | .reverseCount => Sys2Proof.Machine.execReverseCount s
  | .encoderSkip => Sys2Proof.Machine.execEncoderSkip s
  | .speedWindowEnd => Sys2Proof.Machine.execSpeedWindowEnd s
  | .lockAcquired => Sys2Proof.Machine.execLockAcquired s
  | .enterStopped => Sys2Proof.Machine.execEnterStopped s
  | .caseStart => Sys2Proof.Machine.execCaseStart s
  | .laneEyeClear => Sys2Proof.Machine.execLaneEyeClear s
  | .plateSample scan => Sys2Proof.Machine.execPlateSample scan s
  | .plateSettled => Sys2Proof.Machine.execPlateSettled s
  | .verifyWindowEnd => Sys2Proof.Machine.execVerifyWindowEnd s
  | .evidenceWindowEnd => Sys2Proof.Machine.execEvidenceWindowEnd s
  | .disturbanceTimingExpiry => Sys2Proof.Machine.execDisturbanceTimingExpiry s
  | .disturbanceClearingExpiry => Sys2Proof.Machine.execDisturbanceClearingExpiry s
  | .overloadClearingExpiry => Sys2Proof.Machine.execOverloadClearingExpiry s
  | .quietTimerExpiry => Sys2Proof.Machine.execQuietTimerExpiry s
  | .collectTimeout => Sys2Proof.Machine.execCollectTimeout s
  | .stallTimeout => Sys2Proof.Machine.execStallTimeout s
  | .drainComplete => Sys2Proof.Machine.execDrainComplete s
  | .jobCancel sender job => Sys2Proof.Machine.execJobCancel sender job s
  | .release origin caseId reason => Sys2Proof.Machine.execRelease origin caseId reason s
  | .releaseJobForm origin job reason => Sys2Proof.Machine.execReleaseJobForm origin job reason s
  | .claim origin caseId lap => Sys2Proof.Machine.execClaim origin caseId lap s
  | .caseSight sender caseId product mass length width height lap age => Sys2Proof.Machine.execCaseSight sender caseId product mass length width height lap age s
  | .adopt origin job => Sys2Proof.Machine.execAdopt origin job s
  | .jobOffer sender job lineCount footprint heightLimit loadLimit => Sys2Proof.Machine.execJobOffer sender job lineCount footprint heightLimit loadLimit s
  | .jobLine sender job line product ordered mass length width height crushClass rank faceLock => Sys2Proof.Machine.execJobLine sender job line product ordered mass length width height crushClass rank faceLock s
  | .jobEnd origin job outcome placed loadKg short => Sys2Proof.Machine.execJobEnd origin job outcome placed loadKg short s
  | .shortLine origin job line quantity => Sys2Proof.Machine.execShortLine origin job line quantity s
  | .cellStatus origin status => Sys2Proof.Machine.execCellStatus origin status s
  | .refusedFrame kind sender length => Sys2Proof.Machine.execRefusedFrame kind sender length s
  | .damagedFrame levels => Sys2Proof.Machine.execDamagedFrame levels s
  | .voidedFrame how => Sys2Proof.Machine.execVoidedFrame how s
  | .lineIdle => Sys2Proof.Machine.execLineIdle s
  | .lostArbitration => Sys2Proof.Machine.execLostArbitration s
  | .attemptVoided how => Sys2Proof.Machine.execAttemptVoided how s
  | .ready gripper => Sys2Proof.Machine.execReady gripper s
  | .accept tag => Sys2Proof.Machine.execAccept tag s
  | .doneReport tag => Sys2Proof.Machine.execDone tag s
  | .faultReport tag disposition number => Sys2Proof.Machine.execFault tag disposition number s
  | .hold => Sys2Proof.Machine.execHold s
  | .clearHold => Sys2Proof.Machine.execClearHold s
  | .statusRequest => Sys2Proof.Machine.execStatusRequest s
  | .mapRowRequest row => Sys2Proof.Machine.execMapRowRequest row s
  | .malformedMessage code length body check => Sys2Proof.Machine.execMalformedMessage code length body check s
  | .acceptTimeout => Sys2Proof.Machine.execAcceptTimeout s
  | .doneTimeout => Sys2Proof.Machine.execDoneTimeout s
  | .commandSent => Sys2Proof.Machine.execCommandSent s
  | .statusReportSent => Sys2Proof.Machine.execStatusReportSent s
  | .mapRowReportSent => Sys2Proof.Machine.execMapRowReportSent s
  | .planningPassStart => Sys2Proof.Machine.execPlanningPassStart s
  | .planningPassEnd => Sys2Proof.Machine.execPlanningPassEnd s
  | .statusTimerExpiry => Sys2Proof.Machine.execStatusTimerExpiry s
  | .holdoffExpiry => Sys2Proof.Machine.execHoldoffExpiry s

end Sys2Proof.Machine
end

