-- ==== Sys2Proof/Machine/Due.lean ====
section
/-! DEFINITION. What the part does of itself when no command waits: the internal command that is due (log 1, log 5). -/

namespace Sys2Proof.Machine

/-- A timer has run down. -/
def expired (timer : Option Nat) : Bool := decide (timer = some 0)

/-- R55: a pass ends within 20 ms of its start. -/
def Pass.over20 (p : Pass) : Bool := decide (passTime ≤ p.age)

/-- The internal commands, each with whether it is due. Samples read the bridge inputs as they last stood. -/
def State.dueList (s : State) : List (Bool × Instr) :=
  [(expired s.start.join, .joinTimerExpiry),
   (expired (s.job.record.bind (fun r => r.collect)), .collectTimeout),
   (expired (s.job.record.bind (fun r => r.stall)), .stallTimeout),
   (expired s.arm.acceptTimer, .acceptTimeout),
   (expired s.arm.doneTimer, .doneTimeout),
   (expired s.plate.verifyLeft, .verifyWindowEnd),
   (expired s.plate.evidenceLeft, .evidenceWindowEnd),
   (expired s.plate.quietLeft, .quietTimerExpiry),
   (expired s.events.status, .statusTimerExpiry),
   (expired s.events.holdoff, .holdoffExpiry),
   (expired s.travel.windowLeft, .speedWindowEnd),
   (expired s.plate.sampleLeft, .plateSample s.pins.bridge),
   ((s.planner.pass.map Pass.over20).getD false, .planningPassEnd),
   (s.canStart, .planningPassStart)]

/-- The first internal command that is due. -/
def State.due (s : State) : Option Instr := (s.dueList.find? (fun d => d.1)).map (fun d => d.2)

end Sys2Proof.Machine
end

