-- ==== Sys2Proof/Machine/Step.lean ====
section
/-! DEFINITION. The step: the command at the front of the queue, or, with no command waiting, what the part does of itself. -/

namespace Sys2Proof.Machine

/-- One step. With no command waiting, an internal command that is due is taken, and else 1 ms passes (log 1). While the reset
line is held nothing happens of itself (R175). -/
def step (s : State) : Host.Outcome State Fault Refusal :=
  match s.pending with
  | c :: rest => exec c (s.setPending rest)
  | [] =>
    if s.start.held then .next s
    else
      match s.due with
      | some c => exec c s
      | none => .next (s.elapse 1)

/-- The command that a word spells, put at the front of the queue. The table gives no row bits, so no word spells one (log 36). -/
def State.withFetchWord (s : State) (nbits w : Nat) : State :=
  match decodeTableWord nbits w with
  | some c => s.setPending (c :: s.pending)
  | none => s

end Sys2Proof.Machine
end

