-- ==== Sys2Proof/Safety.lean ====
section
/-! DEFINITION. What counts as a safe run, in the terms the statements use: every command goes on, the configuration is in range,
the bounds that the spec gives the stores hold, and a step raises an event once or not at all. -/

namespace Sys2Proof.Safety

open Machine

/-- An outcome is a next state. -/
def Goes (o : Host.Outcome State Fault Refusal) : Prop := ∃ t, o = .next t

/-- Power-on or the reset line: the commands that restart the part (R175). -/
def isReset : Instr → Bool
  | .powerOnReset _ => true
  | .resetLine _ => true
  | .resetLineAsserted => true
  | _ => false

/-- The part while the reset line is held (R175): every block in its reset state, whatever the input levels and the queue. -/
def InReset (s : State) : Prop :=
  s = { State.reset with start := { StartCtl.reset with held := true }, pins := s.pins, pending := s.pending }

/-- Nothing is left for the end of the step: no released result can go out, no gripper case is to be returned under a hold, no
drain is complete in a closing or aborted job, and no frame can begin (R16, R20, R58, R60, R70). -/
def Still (s : State) : Prop :=
  (∀ r, s.planner.result = some r → r.released = false ∨ s.armFree = false ∨ s.planner.holds.any = true) ∧
  (s.planner.holds.any = false ∨ s.armFree = false ∨ s.awaitingGripper = none) ∧
  (∀ r, s.job.record = some r → s.drained = false ∨ (r.phase ≠ .closing ∧ (r.phase = .ended → r.outcome ≠ some .aborted))) ∧
  (s.bus.mode ≠ .full ∨ s.bus.idle = false ∨ s.bus.sendingFrame ≠ none ∨ s.bus.queue = [])

/-- The state in which the blocks take an accepted frame of another station: the frame is in the veto history (R65, R74). -/
def heardFrom (s : State) : State := s.frameSeen false true .recessive

/-- The state in which the blocks take the own frame `p` heard: it has left the queue, it is in the veto history, and what
waited for its place has been offered it (R69, R71, R74). -/
def heardOwn (s : State) (p : TxPayload) : State := ((s.takeSending).frameSeen false true .recessive).placeFreed p

/-- R176: every configuration value lies in the range its parameter has. -/
def ConfigInRange (p : Params) : Prop :=
  p.bitRateCode ≤ 2 ∧ p.footprint ≤ 2 ∧ p.divertOffset ≤ 655350 ∧ (200 ≤ p.claimMargin ∧ p.claimMargin ≤ 5000) ∧
  p.minimumGap ≤ 1000 ∧ p.confirmTail ≤ 1000 ∧ p.leadTime ≤ 1000 ∧ p.stepN ≤ 4095 ∧ p.stepP ≤ 3 ∧ p.stepR ≤ 15 ∧
  (200 ≤ p.heightLimit ∧ p.heightLimit ≤ 2400) ∧ (50 ≤ p.loadLimitKg ∧ p.loadLimitKg ≤ 2000) ∧
  (10 ≤ p.stallTime ∧ p.stallTime ≤ 600) ∧ (5 ≤ p.doneTimeout ∧ p.doneTimeout ≤ 60) ∧ p.supportTol ≤ 50 ∧
  (50 ≤ p.supportPct ∧ p.supportPct ≤ 100) ∧ p.zoneSlack ≤ 3 ∧ (40 ≤ p.wx0 ∧ p.wx0 ≤ 600) ∧ (40 ≤ p.wy0 ∧ p.wy0 ≤ 600) ∧
  p.comThresholdKg ≤ 2000 ∧ (250 ≤ p.statusPeriod ∧ p.statusPeriod ≤ 5000) ∧ (1 ≤ p.gain ∧ p.gain ≤ 65535) ∧
  (p.weights.length = 8 ∧ ∀ w ∈ p.weights, w ≤ 255) ∧ (10 ≤ p.settleBand ∧ p.settleBand ≤ 1000) ∧
  (3 ≤ p.settleSteps ∧ p.settleSteps ≤ 60) ∧ (1 ≤ p.massTol ∧ p.massTol ≤ 20) ∧ (10 ≤ p.comTol ∧ p.comTol ≤ 200) ∧
  (200 ≤ p.disturbBand ∧ p.disturbBand ≤ 10000) ∧ (10 ≤ p.slipDistance ∧ p.slipDistance ≤ 200) ∧
  (40 ≤ p.slipWindow ∧ p.slipWindow ≤ 160) ∧ (50 ≤ p.channelLimitKg ∧ p.channelLimitKg ≤ 1000) ∧
  (1000 ≤ p.quietTime ∧ p.quietTime ≤ 60000) ∧ p.classes.length = 24

/-- R104: the travel position as a whole, in units of 1/R µm, for the read value `r` of R. -/
def position (t : TravelUnit) (r : Nat) : Nat := (t.count.toNat * 1000 + t.um) * r + t.rem

/-! ### Events of a step -/

/-- R167, R168: between `s` and `t` the event is raised once: its counter and its latched flag are as its class makes them. The event unit
takes events once the part has left STARTING, and it has 24 counters. -/
def RaisedOnce (e : EventKind) (s t : State) : Prop :=
  s.start.state ≠ .starting → s.events.counters.length = 24 →
    let n := e.number
    let cls := s.start.cfg.classes.getD n .off
    t.events.counters.getD n 0 = (if cls = .off then s.events.counters.getD n 0 else min 255 (s.events.counters.getD n 0 + 1)) ∧
    t.events.latched.getLsbD n = (s.events.latched.getLsbD n || decide (cls = .deferred ∨ cls = .prompt))

/-- Between `s` and `t` the event is not raised: its counter and its latched flag stand. -/
def NotRaised (e : EventKind) (s t : State) : Prop :=
  t.events.counters.getD e.number 0 = s.events.counters.getD e.number 0 ∧
  t.events.latched.getLsbD e.number = s.events.latched.getLsbD e.number

/-! ### Invariants -/

/-- R102, R104: the travel position is made of digits, and it is 0 while N, P and R are not yet known. -/
def TravelDigits (s : State) : Prop :=
  s.travel.um < 1000 ∧ s.travel.rem < s.start.cfg.readR ∧ (s.start.state = .starting → s.travel.rem = 0)

/-- R9, R21, R98, R121, R150, R167: the stores with a fixed number of places keep it, and each event counter stays in 8 bits. -/
def FixedStores (s : State) : Prop :=
  s.map.cells.length = 480 ∧ s.job.lines.length = 64 ∧ s.claim.peers.length = 30 ∧ s.staging.buffer.length = 4 ∧
  s.events.counters.length = 24 ∧ (∀ n ∈ s.events.counters, n ≤ 255) ∧ s.plate.f.length = 9 ∧ s.plate.b.length = 9 ∧
  s.plate.masses.length = 8

/-- R68: the groups of the transmit queue keep to their places, and at most one frame is SENDING. -/
def QueueInPlaces (s : State) : Prop :=
  (∀ g, s.bus.inGroup g ≤ g.places) ∧ (s.bus.queue.filter (fun f => f.sending)).length ≤ 1

/-- R74, R80, R95, R19, R161: the lists with a stated greatest length keep to it. -/
def ListsInBounds (s : State) : Prop :=
  s.bus.history.length ≤ 32 ∧ s.claim.backlog.length ≤ 24 ∧ s.job.endReports.length ≤ 130 ∧ s.plate.history.length ≤ 17

/-- R81, R112, R114, R122, R125: no case id stands twice in the sighting table or in the schedule, every scheduled case is in
transit in the table and has a fire travel only from FIRED on, the table holds at most 16 entries, and the lane occupancy is at most 6. -/
def CasesInOrder (s : State) : Prop :=
  (s.claim.sightings.map (fun e => e.caseId)).Nodup ∧ (s.divert.map (fun e => e.caseId)).Nodup ∧
  (∀ d ∈ s.divert, ∃ e ∈ s.claim.sightings, e.caseId = d.caseId ∧ e.state.inTransit = true) ∧
  (∀ d ∈ s.divert, d.phase = .waiting ∨ d.phase = .armed → d.fire = none) ∧
  s.claim.sightings.length ≤ 16 ∧ s.occupancy ≤ 6

/-- R81, R106, R112: the sighting table and the schedule stand in ascending order of arrival travel: no entry's arrival is past the
arrival of one that stands after it. -/
def ArrivalsAscend (s : State) : Prop :=
  s.claim.sightings.Pairwise (fun x y => 0 ≤ travelDiff y.arrival x.arrival) ∧
  s.divert.Pairwise (fun x y => 0 ≤ travelDiff y.arrival x.arrival)

/-- R106: travel values compare soundly where they lie near each other. Every arrival lies within 2^30 mm of the running travel, and
so does that of a case sighted now, since the divert offset lies in the range of R176. -/
def ArrivalsNear (s : State) : Prop :=
  s.start.cfg.divertOffset ≤ 655350 ∧
  (∀ e ∈ s.claim.sightings, (travelDiff e.arrival s.travel.count).natAbs < 2 ^ 30) ∧
  (∀ d ∈ s.divert, (travelDiff d.arrival s.travel.count).natAbs < 2 ^ 30)

end Sys2Proof.Safety
end

