-- ==== Sys2Proof/WellFormed.lean ====
section
/-! DEFINITION. When a command's operands are ones its row can carry. An ill-formed command spells no frame, message or scan;
the rows of frames another station sends need no check, since their operands have the widths of the payload table (R66). -/

namespace Sys2Proof

open Machine

/-- The operands of a command are ones its row can carry. -/
def Instr.wellFormed : Instr → Bool
  | .configurationReadEnd _ scan => scan.length == 9
  | .plateSample scan => scan.length == 9
  | .cellStatus _ f => decide (f.wanted.length ≤ 3)
  | .refusedFrame kind sender length => frameRefused kind sender length.toNat
  | .damagedFrame levels =>
    match takeIn levels with
    | .badCheck => true
    | .badLength => true
    | .missingFill _ => true
    | _ => false
  | .voidedFrame how => decide (how ≠ .clash)
  | .malformedMessage code length body check => decide (body.length = length.toNat) && armMalformed code length body check
  | _ => true

end Sys2Proof
end

