-- ==== Sys2Proof/Certificates/Slice0/Obligations.lean ====
section
/-! DEFINITION. The statements about the block, for the provers. `finish` is what every step may end with (released results, a
returned gripper case, the drain and the contention for the line); FinishLeavesTheFieldAlone says when it changes nothing. -/

open Sys2Proof Sys2Proof.Machine

/-! ### The queue and time -/

/-- The command at the front of the queue runs, with the queue's rest (95: one command, one whole step). -/
def Obligations.StepRunsTheFrontCommand : Prop :=
  ∀ (c : Instr) (rest : List Instr) (s : State), s.pending = c :: rest → step s = exec c { s with pending := rest }

/-- The model's choice (log 1, log 2): with no command waiting, an internal command that is due runs, or 1 ms passes, and while the
reset line is held nothing does; a row that is an expiry lets the time left on its timer pass first. With the timer stopped the row
has no effect (00 "Timers"). -/
def Obligations.TimePassesUpToEachExpiry : Prop :=
  (∀ s : State, s.pending = [] →
    (s.start.held = true → step s = .next s) ∧
    (s.start.held = false → ∀ c, s.due = some c → step s = exec c s) ∧
    (s.start.held = false → s.due = none → step s = .next (s.elapse 1))) ∧
  ∀ (s : State) (scan : List RawCount),
    (∀ left, s.start.join = some left → exec .joinTimerExpiry s =
      if s.start.state = .joining then exec .joinTimerExpiry (s.elapse left) else .next s) ∧
    (∀ left, s.travel.windowLeft = some left → exec .speedWindowEnd s = exec .speedWindowEnd (s.elapse left)) ∧
    (∀ left, s.plate.sampleLeft = some left → exec (.plateSample scan) s = exec (.plateSample scan) (s.elapse left)) ∧
    (∀ left, s.plate.verifyLeft = some left → exec .verifyWindowEnd s = exec .verifyWindowEnd (s.elapse left)) ∧
    (∀ left, s.plate.evidenceLeft = some left → exec .evidenceWindowEnd s = exec .evidenceWindowEnd (s.elapse left)) ∧
    (∀ left, s.plate.quietLeft = some left → exec .quietTimerExpiry s = exec .quietTimerExpiry (s.elapse left)) ∧
    (∀ r left, s.job.record = some r → r.collect = some left → exec .collectTimeout s = exec .collectTimeout (s.elapse left)) ∧
    (∀ r left, s.job.record = some r → r.stall = some left → exec .stallTimeout s = exec .stallTimeout (s.elapse left)) ∧
    (∀ left, s.arm.port = .awaitAccept → s.arm.acceptTimer = some left → exec .acceptTimeout s = exec .acceptTimeout (s.elapse left)) ∧
    (∀ left, s.arm.port = .busy → s.arm.doneTimer = some left → exec .doneTimeout s = exec .doneTimeout (s.elapse left)) ∧
    (∀ left, s.events.status = some left → exec .statusTimerExpiry s = exec .statusTimerExpiry (s.elapse left)) ∧
    (∀ left, s.events.holdoff = some left → exec .holdoffExpiry s = exec .holdoffExpiry (s.elapse left)) ∧
    (s.travel.windowLeft = none → exec .speedWindowEnd s = .next s) ∧
    (s.plate.sampleLeft = none → exec (.plateSample scan) s = .next s) ∧
    (s.events.status = none → exec .statusTimerExpiry s = .next s) ∧
    (s.events.holdoff = none → exec .holdoffExpiry s = .next s)

/-- What a step may end with leaves the field side and the queue alone; where nothing is left for it, it changes nothing at all. A
released result (R58) goes out as soon as the port is free and no hold stands: a PLACE once the map has taken the write, and a
refused one is discarded. Under a hold a free port returns a gripper case that awaits disposition at once (R60). -/
def Obligations.FinishLeavesTheFieldAlone : Prop :=
  (∀ s : State, s.finish.start = s.start ∧ s.finish.travel = s.travel ∧ s.finish.divert = s.divert ∧ s.finish.plate = s.plate ∧
    s.finish.pins = s.pins ∧ s.finish.pending = s.pending) ∧
  (∀ s : State, Safety.Still s → s.finish = s) ∧
  (∀ (s : State) (r : PlanResult), s.planner.result = some r → r.released = true → s.arm.port = .ready → s.arm.cmd = none →
    s.planner.holds.any = false →
    let issued := fun (t : State) => t.arm.port = .awaitAccept ∧ t.arm.tag = s.arm.tag + 1 ∧
      (∃ line, t.arm.cmd = some
        { action := r.action, tag := s.arm.tag + 1, caseId := r.caseId, source := r.source, line := line, progress := .sent }) ∧
      (s.arm.ready = [] → s.arm.onLine = none →
        let bytes := commandBytes r.action (s.arm.tag + 1) r.caseId r.source
        t.arm.onLine = some (.command (s.arm.tag + 1) bytes, bytes))
    s.finish.planner.result = none ∧
    (r.action.command ≠ .place → issued s.finish ∧ s.finish.map = s.map) ∧
    (∀ tgt id mp, r.action = .place tgt → r.caseId = some id → s.writeRequest id tgt = some mp →
      issued s.finish ∧ s.finish.map = mp ∧ s.finish.planner.flag = true) ∧
    (∀ tgt, r.action = .place tgt → (∀ id, r.caseId = some id → s.writeRequest id tgt = none) →
      s.finish.arm = s.arm ∧ s.finish.map = s.map ∧ s.finish.planner.flag = true)) ∧
  (∀ (s : State) (g : Gripper), s.planner.holds.any = true → s.arm.port = .ready → s.arm.cmd = none → s.staging.gripper = some g →
    g.command = none → g.disposition ≠ .none → g.held.mark = none →
    s.finish.arm.port = .awaitAccept ∧ s.finish.arm.tag = s.arm.tag + 1 ∧
    s.finish.arm.cmd = some
      { action := .ret, tag := s.arm.tag + 1, caseId := g.held.caseId, source := .gripper, line := g.held.line, progress := .sent } ∧
    s.finish.staging = { s.staging with gripper := some { g with held := { g.held with mark := some .ret } } } ∧
    s.finish.planner = s.planner ∧ s.finish.map = s.map ∧ s.finish.job.record = s.job.record ∧ s.finish.job.lines = s.job.lines)

/-! ### Reset and start-up -/

/-- The reset values that the chapters give, each from its own block; every timer and timing is stopped. -/
def Obligations.ResetLeavesTheStatedValues : Prop :=
  let s := State.reset
  s.start.state = .starting ∧ s.start.station = none ∧ s.start.lockout = false ∧ s.start.join = none ∧
  s.bus.queue = [] ∧ s.bus.pendingStatus = none ∧ s.bus.history = [] ∧ s.bus.muted = false ∧ s.bus.refused = 0 ∧ s.bus.mode = .off ∧
  s.claim.interest = [] ∧ s.claim.sightings = [] ∧ s.claim.backlog = [] ∧ s.claim.foreign = 0 ∧
  s.claim.peers.length = 30 ∧ (∀ p ∈ s.claim.peers, p.heard = false ∧ p.age = 3 ∧ p.wanted = []) ∧
  s.job.record = none ∧ (∀ l ∈ s.job.lines, l = none) ∧ s.job.offer = none ∧ s.job.endReports = [] ∧ s.job.ignored = 0 ∧
  s.map.cells.length = 480 ∧ (∀ c ∈ s.map.cells, c = { top := 0, rank := 15, reserve := 65535, mark := false }) ∧
  s.map.mTot = 0 ∧ s.map.sx = 0 ∧ s.map.sy = 0 ∧ s.map.sz = 0 ∧ s.map.count = 0 ∧ s.map.seq = 0 ∧ s.map.prov = none ∧
  s.planner.flag = false ∧ s.planner.pass = none ∧ s.planner.result = none ∧ s.planner.holds.any = false ∧
  s.travel.count = 0 ∧ s.travel.um = 0 ∧ s.travel.rem = 0 ∧ s.travel.window = 0 ∧ s.travel.v = 0 ∧ s.travel.vHold = 0 ∧
  s.travel.lock = .unlocked ∧ s.travel.lockRun = 0 ∧ s.travel.stopRun = 0 ∧ s.travel.windowLeft = none ∧ s.divert = [] ∧
  s.staging.lane = [] ∧ s.staging.buffer = [none, none, none, none] ∧ s.staging.gripper = none ∧ s.staging.clock = 0 ∧
  s.staging.overflow = 0 ∧ s.arm.port = .offline ∧ s.arm.cmd = none ∧ s.arm.tag = 0 ∧ s.arm.ready = [] ∧ s.arm.onLine = none ∧
  s.arm.acceptTimer = none ∧ s.arm.doneTimer = none ∧ s.arm.gripper = .empty ∧ s.arm.lastFault = 0 ∧
  s.arm.malformed = 0 ∧ s.arm.unexpected = 0 ∧
  s.plate.sampleLeft = none ∧ s.plate.verifyLeft = none ∧ s.plate.evidenceLeft = none ∧ s.plate.disturbFrom = none ∧
  s.plate.clearFrom = none ∧ s.plate.overClearFrom = none ∧
  s.plate.state = .absent ∧ s.plate.mode = .rest ∧ s.plate.watch = none ∧ s.plate.evidence = none ∧ s.plate.xm = 0 ∧ s.plate.ym = 0 ∧
  s.plate.history = [] ∧ s.plate.lastSettled = 0 ∧ s.plate.disturbed = false ∧ s.plate.overload = false ∧ s.plate.quietLeft = none ∧
  s.events.latched = 0 ∧ (∀ n ∈ s.events.counters, n = 0) ∧ s.events.status = none ∧ s.events.holdoff = none ∧ s.events.prompt = false ∧
  s.valve = false ∧ s.stackComplete = false ∧ s.alert = false

/-- POWER_ON_RESET and RESET_LINE have the same effects: every block in its reset state, the straps read; RESET_LINE_ASSERTED puts
every block in its reset state and holds it there. The input levels and the queue are not the part's and stay (log 8). -/
def Obligations.ResetRestartsThePart : Prop :=
  ∀ (straps : BitVec 5) (s : State),
    let station : Option Station := if 1 ≤ straps.toNat ∧ straps.toNat ≤ 30 then some straps else none
    let t : State := { State.reset with start := { StartCtl.reset with station := station }, pins := s.pins, pending := s.pending }
    exec (.powerOnReset straps) s = .next t ∧ exec (.resetLine straps) s = .next t ∧
    exec .resetLineAsserted s =
      .next { State.reset with start := { StartCtl.reset with held := true }, pins := s.pins, pending := s.pending }

/-- While the reset line is held, no command but a reset changes anything but the levels of the input lines. -/
def Obligations.HeldResetStandsStill : Prop :=
  ∀ (c : Instr) (s : State), Safety.InReset s → Safety.isReset c = false →
    ∃ pins, exec c s = .next { s with pins := pins }

/-- R176: whatever the memory delivers, every configuration value read lies in its range; a memory that does not answer or carries
another marker gives the defaults; a parameter whose bytes lie wholly within the length is taken, most significant byte first and
clamped (shown for the bit rate code and the quiet time), and one beyond it takes its default. -/
def Obligations.ConfigurationIsReadInRange : Prop :=
  (∀ memory : Option (List Byte), Safety.ConfigInRange (Params.read memory)) ∧
  (∀ memory : Option (List Byte), (∀ m0 m1 len rest, memory = some (m0 :: m1 :: len :: rest) → m0 ≠ 0xC7 ∨ m1 ≠ 0x31) →
    Params.read memory = Params.default ∧ Params.defaulted memory = true) ∧
  (∀ (len : Byte) (bs : List Byte), len.toNat ≤ bs.length →
    let p := Params.read (some (0xC7 :: 0x31 :: len :: bs))
    (∀ b, 1 ≤ len.toNat → bs[0]? = some b → p.bitRateCode = min 2 b.toNat) ∧
    (∀ a b, 58 ≤ len.toNat → bs[56]? = some a → bs[57]? = some b →
      p.quietTime = max 1000 (min 60000 (a.toNat * 256 + b.toNat))) ∧
    (len.toNat < 58 → p.quietTime = 5000) ∧
    (Params.defaulted (some (0xC7 :: 0x31 :: len :: bs)) = true ↔ len.toNat < 82))

/-- CONFIGURATION_READ_END in STARTING, with the reset line released. -/
def Obligations.ConfigurationReadEnds : Prop :=
  ∀ (memory : Option (List Byte)) (scan : List RawCount) (s : State), s.start.state = .starting → s.start.held = false →
    ∃ t : State, exec (.configurationReadEnd memory scan) s = .next t.finish ∧
      t.start = (match s.start.station with
        | some _ => { s.start with cfg := Params.read memory, state := .joining, join := some (2 * (Params.read memory).statusPeriod) }
        | none => { s.start with cfg := Params.read memory, state := .unnumbered }) ∧
      t.bus = { s.bus with mode := .listen, rate := some (Params.read memory).bitRate, receiving := false } ∧
      t.travel = { s.travel with windowLeft := some 20 } ∧
      t.pins = { s.pins with bridge := scan } ∧
      t.plate.f = rawCounts scan ∧ t.plate.b = rawCounts scan ∧ t.plate.load = 0 ∧ t.plate.ref = 0 ∧ t.plate.quietRef = 0 ∧
      t.plate.runStart = s.plate.clock ∧ t.plate.restart = false ∧ t.plate.sampleLeft = some 400 ∧
      t.plate.state = (if s.pins.palletPresent then .uncertain else .absent) ∧
      t.plate.watch = s.plate.watch ∧ t.plate.evidence = s.plate.evidence ∧ t.plate.history = s.plate.history ∧
      t.events = { s.events with
        latched := if Params.defaulted memory then s.events.latched ||| 0x800000 else s.events.latched
        counters := if Params.defaulted memory then s.events.counters.modify 23 sat8 else s.events.counters
        status := if s.start.station = none then some (Params.read memory).statusPeriod else s.events.status } ∧
      t.job = s.job ∧ t.claim = s.claim ∧ t.map = s.map ∧ t.planner = s.planner ∧ t.divert = s.divert ∧ t.staging = s.staging ∧
      t.arm = s.arm ∧ t.pending = s.pending

/-- JOIN_TIMER_EXPIRY: the part enters IDLE, locked out or not, and queues its first CELL STATUS. -/
def Obligations.JoiningEndsInIdle : Prop :=
  ∀ s : State, s.start.state = .joining → s.start.join = some 0 →
    let t : State := { s with start := { s.start with state := .idle, join := none }, bus := { s.bus with mode := .full },
                              events := { s.events with status := some s.start.cfg.statusPeriod } }
    exec .joinTimerExpiry s = .next (({ t with bus := t.bus.queueStatus t.statusFields } : State).finish)

/-- The duplicate-station lockout is cleared by reset alone. -/
def Obligations.LockoutStaysUntilReset : Prop :=
  ∀ (c : Instr) (s t : State), s.start.lockout = true → Safety.isReset c = false → exec c s = .next t → t.start.lockout = true

/-! ### Pallet-present -/

/-- PALLET_PRESENT_RISE: an ABSENT plate begins to tare; in every other plate state only the input level changes. -/
def Obligations.PalletRiseBeginsTaring : Prop :=
  ∀ s : State,
    exec .palletPresentRise s = .next (
      if s.start.state ≠ .starting ∧ s.plate.state = .absent then
        { s with pins := { s.pins with palletPresent := true },
                 plate := { s.plate with state := .taring, restart := true, quietLeft := some s.start.cfg.quietTime, quietRef := s.plate.load } }
      else { s with pins := { s.pins with palletPresent := true } })

/-- PALLET_PRESENT_FALL: in STARTING only the input level changes; with no job, a plate that is not TARED becomes ABSENT. A job that
waits in ENDED is torn down: on a TARED plate with nothing under watch and no bid made, the map, the record and the build list are
cleared, the plate is ABSENT with its disturbance ended, and the planner starts afresh. -/
def Obligations.PalletFallTearsDownEndedJob : Prop :=
  (∀ s : State,
    (s.start.state = .starting → s.job.record = none →
      exec .palletPresentFall s = .next (({ s with pins := { s.pins with palletPresent := false } } : State).finish)) ∧
    (s.start.state ≠ .starting → s.plate.state ≠ .tared → s.job.record = none →
      exec .palletPresentFall s = .next (({ s with pins := { s.pins with palletPresent := false },
                                                   plate := { s.plate with state := .absent } } : State).finish))) ∧
  ∀ (s : State) (r : JobRecord), s.start.state ≠ .starting → s.plate.state = .tared → s.plate.watch = none → s.plate.evidence = none →
    s.job.record = some r → r.phase = .ended → r.outcome ≠ some .aborted → s.job.offer = none →
    ∃ t : State, exec .palletPresentFall s = .next t.finish ∧
      t.map = StackMap.cleared ∧ t.job = { s.job with record := none, lines := List.replicate 64 none } ∧ t.stackComplete = false ∧
      t.plate = { s.plate with state := .absent, disturbed := false, disturbFrom := none, clearFrom := none, history := [] } ∧
      t.planner = { flag := true, pass := none, result := none, holds := { s.planner.holds with disturbed := false } } ∧
      t.claim = { s.claim with interest := [] } ∧ t.pins = { s.pins with palletPresent := false } ∧
      t.start = s.start ∧ t.bus = s.bus ∧ t.travel = s.travel ∧ t.divert = s.divert ∧ t.staging = s.staging ∧ t.arm = s.arm ∧
      t.events = s.events ∧ t.pending = s.pending

/-- PALLET_PRESENT_FALL (R17, R18, R97) aborts a job that is not ENDED: the map is cleared whole, with no commit, the planner drops its
work, and the job is left in ENDED with outcome ABORTED, or, its drain complete, gone. Its JOB END carries the cases placed and the
load as they stood before the map was cleared, PALLET LOST is raised, each OURS entry is dropped and released CANCELLED, and each
DIVERTING one stays. At the departure from TARED (R153, R159, R160) the disturbance ends and the slip history is emptied; a watch in
phase OPEN stays open, orphaned; one in SETTLING gets NOT LANDED; and a running evidence request is answered NOT GAINED. The case of the
placement is lost with the last two: it is released LOST, its line's claim is given up, and the events are raised. -/
def Obligations.PalletFallAbortsJob : Prop :=
  ∀ (s : State) (r : JobRecord), s.start.state ≠ .starting → s.job.record = some r → r.phase ≠ .ended →
    ∃ t : State, exec .palletPresentFall s = .next t ∧
      t.map = StackMap.cleared ∧ t.plate.state = .absent ∧ t.stackComplete = false ∧
      (t.job.record = none ∨
        t.job.record = some { r with phase := .ended, outcome := some .aborted, stall := none, collect := none }) ∧
      t.planner.pass = none ∧ t.planner.result = none ∧ t.start = s.start ∧ t.travel = s.travel ∧
      t.pins = { s.pins with palletPresent := false } ∧ t.pending = s.pending ∧
      (let held := s.job.lines.filterMap id
       let placed := (held.map (fun l => l.placed)).sum
       let kg := s.map.mTot / 1000
       let short := (held.filter (fun l => decide (l.placed < l.ordered))).length
       let report : TxPayload :=
         .jobEnd r.job JobOutcome.aborted.code (BitVec.ofNat 16 placed) (BitVec.ofNat 16 kg) (BitVec.ofNat 8 short)
       s.job.lines.length = 64 → placed ≤ 65535 → kg ≤ 65535 → s.job.endReports.length < 130 →
         (∃ f ∈ t.bus.queue, f.payload = report) ∨ report ∈ t.job.endReports) ∧
      (let raised := fun (e : EventKind) =>
         let n := e.number
         let cls := s.start.cfg.classes.getD n .off
         (cls ≠ .off → t.events.counters.getD n 0 = min 255 (s.events.counters.getD n 0 + 1)) ∧
         (cls = .deferred ∨ cls = .prompt → t.events.latched.getLsbD n = true)
       let lost := fun (id : CaseId) (line : LineRef) =>
         (s.bus.mode = .full → s.claim.backlog = [] →
           (∃ f ∈ t.bus.queue, f.payload = .release id 4) ∨ (id, .lost) ∈ t.claim.backlog) ∧
         (∀ n l, line = .counted n → s.lineAt n = some l → (∀ e ∈ s.claim.sightings, e.state ≠ .ours) → t.job.record ≠ none →
           t.lineAt n = some { l with claimed := l.claimed - 1 })
       s.events.counters.length = 24 → raised .palletLost ∧
         (s.plate.state = .tared →
           (t.plate.disturbed = false ∧ t.plate.disturbFrom = none ∧ t.plate.clearFrom = none ∧ t.plate.history = [] ∧
             t.planner.holds.disturbed = false) ∧
           (∀ w, s.plate.watch = some w → w.phase = .opened → s.plate.evidence = none →
             t.plate.watch = some { w with orphaned := true } ∧ (s.arm.cmd ≠ none → t.arm.cmd = s.arm.cmd)) ∧
           (∀ w, s.plate.watch = some w → w.phase = .settling → w.orphaned = false → s.plate.evidence = none →
             t.plate.watch = none ∧ t.plate.verifyLeft = none ∧ raised .notLanded ∧ raised .caseLost ∧ lost w.caseId w.line) ∧
           (∀ ev cmd id tgt, s.plate.evidence = some ev → s.arm.cmd = some cmd → cmd.action = .place tgt → cmd.caseId = some id →
             (∀ w, s.plate.watch = some w → w.phase = .opened ∧ w.caseId = id) → s.staging.gripper = none →
             t.plate.evidence = none ∧ t.plate.evidenceLeft = none ∧ t.plate.watch = none ∧ t.arm.cmd = none ∧ raised .caseLost ∧
               lost id cmd.line))) ∧
      ((s.claim.sightings.map (fun e => e.caseId)).Nodup → s.claim.sightings.length ≤ 16 →
        (∀ e ∈ s.claim.sightings, e.state = .ours →
          (∀ x ∈ t.claim.sightings, x.caseId ≠ e.caseId) ∧ (∀ d ∈ t.divert, d.caseId ≠ e.caseId) ∧
          (s.bus.mode = .full → s.claim.backlog = [] →
            (∃ f ∈ t.bus.queue, f.payload = .release e.caseId 3) ∨ (e.caseId, .cancelled) ∈ t.claim.backlog)) ∧
        (∀ e ∈ s.claim.sightings, e.state = .diverting → ∃ x ∈ t.claim.sightings, x.caseId = e.caseId ∧ x.state = .diverting))

/-! ### Travel and the belt's speed -/

/-- R104, with R102 for STARTING. A forward count adds N · 2^P (N read 0 as 1) to the travel position modulo 2^32 · 1,000 · R and
its three parts are the digits; at most 33 mm are carried. Where the running travel stays, nothing else changes but the lines. -/
def Obligations.ForwardCountAddsTheStep : Prop :=
  ∀ s : State,
    let step := (if s.start.cfg.stepN = 0 then 1 else s.start.cfg.stepN) * 2 ^ s.start.cfg.stepP
    let r := if s.start.cfg.stepR = 0 then 1 else s.start.cfg.stepR
    let lines : Pins := { s.pins with encoder := s.pins.encoder + 1 }
    (s.start.state = .starting → exec .forwardCount s = .next { s with pins := lines }) ∧
    (s.start.state ≠ .starting → s.travel.um < 1000 → s.travel.rem < r →
      ∃ t : TravelUnit,
        Safety.position t r = (Safety.position s.travel r + step) % (2 ^ 32 * 1000 * r) ∧ t.um < 1000 ∧ t.rem < r ∧
        t = { s.travel with count := t.count, um := t.um, rem := t.rem, window := s.travel.window + ((s.travel.rem + step) / r : Nat) } ∧
        (s.start.cfg.stepN ≤ 4095 → s.start.cfg.stepP ≤ 3 → (t.count - s.travel.count).toNat ≤ 33) ∧
        exec .forwardCount s =
          .next (let u : State := { s with travel := t, pins := lines }
            if t.count = s.travel.count then u else u.travelChanged.finish))

/-- R105: a reverse count subtracts the step from the same number, and the window loses the micrometres taken. -/
def Obligations.ReverseCountSubtractsTheStep : Prop :=
  ∀ s : State,
    let step := (if s.start.cfg.stepN = 0 then 1 else s.start.cfg.stepN) * 2 ^ s.start.cfg.stepP
    let r := if s.start.cfg.stepR = 0 then 1 else s.start.cfg.stepR
    let lines : Pins := { s.pins with encoder := s.pins.encoder - 1 }
    (s.start.state = .starting → exec .reverseCount s = .next { s with pins := lines }) ∧
    (s.start.state ≠ .starting → s.travel.um < 1000 → s.travel.rem < r →
      ∃ t : TravelUnit,
        (Safety.position t r + step) % (2 ^ 32 * 1000 * r) = Safety.position s.travel r ∧ t.um < 1000 ∧ t.rem < r ∧
        t = { s.travel with count := t.count, um := t.um, rem := t.rem,
                            window := s.travel.window - (if s.travel.rem < step then (step - s.travel.rem + r - 1) / r else 0 : Nat) } ∧
        exec .reverseCount s =
          .next (let u : State := { s with travel := t, pins := lines }
            if t.count = s.travel.count then u else u.travelChanged.finish))

/-- R105: a forward and a reverse count, in either order, leave the travel unit as it was. -/
def Obligations.OppositeCountsCancel : Prop :=
  ∀ (t : TravelUnit) (step r : Nat), t.um < 1000 → t.rem < r →
    (t.forward step r).reverse step r = t ∧ (t.reverse step r).forward step r = t

/-- R103, R116: a skipped encoder state is not counted, and an eye that clears has no effect: only the input levels change. -/
def Obligations.SkipAndEyeClearOnlyMoveTheLines : Prop :=
  ∀ s : State,
    exec .encoderSkip s = .next { s with pins := { s.pins with encoder := s.pins.encoder + 2 } } ∧
    exec .laneEyeClear s = .next { s with pins := { s.pins with laneBlocked := false } }

/-- SPEED_WINDOW_END (R107 to R111) at the end of a window: the measured speed, the stop run, and what the lock state makes of
them. Each change of the lock state raises LOCK CHANGED, and the entry to STOPPED raises BELT STOPPED too. LOCK_ACQUIRED and
ENTER_STOPPED are such windows (the model's choice, log 3), with the states they name. -/
def Obligations.SpeedWindowMovesTheLock : Prop :=
  ∀ s : State, s.travel.windowLeft = some 0 →
    let vm : Nat := if 0 < s.travel.window then min 65535 (s.travel.window / 20).toNat else 0
    let v := s.travel.v
    let stopRun := if vm = 0 then min 25 (s.travel.stopRun + 1) else 0
    let near := fun (d : Nat) => ((vm : Int) - v).natAbs ≤ v / d
    let moved := fun (d : Int) => ((v : Int) + ((vm : Int) - v).tdiv d).toNat
    let lockRun := if 0 < vm ∧ near 32 then s.travel.lockRun + 1 else 0
    let u : TravelUnit := { s.travel with window := 0, stopRun := stopRun, windowLeft := some 20 }
    let halved : TravelUnit :=
      if 8 ≤ lockRun then { u with v := moved 2, lock := .locked, lockRun := 0 } else { u with v := moved 2, lockRun := lockRun }
    let expected : TravelUnit :=
      match s.travel.lock with
      | .unlocked => if 25 ≤ stopRun then { u with v := 0, lock := .stopped, lockRun := 0 } else halved
      | .locked => if near 8 then { u with v := moved 16 } else { u with v := moved 2, vHold := v, lock := .unlocked, lockRun := 0 }
      | .stopped => if vm = 0 then u else { u with v := moved 2, lock := .unlocked, lockRun := if near 32 then 1 else 0 }
    ∃ t : State, exec .speedWindowEnd s = .next t ∧ t.travel = expected ∧
      (expected.lock ≠ s.travel.lock → Safety.RaisedOnce .lockChanged s t) ∧
      (expected.lock = s.travel.lock → Safety.NotRaised .lockChanged s t) ∧
      (s.travel.lock ≠ .stopped → expected.lock = .stopped → Safety.RaisedOnce .beltStopped s t) ∧
      (s.travel.lock = .stopped ∨ expected.lock ≠ .stopped → Safety.NotRaised .beltStopped s t) ∧
      t.start = s.start ∧ t.plate = s.plate ∧ t.pins = s.pins ∧ t.pending = s.pending ∧
      (s.travel.lock = .unlocked → 7 ≤ s.travel.lockRun → 0 < vm → near 32 →
        exec .lockAcquired s = .next t ∧ t.travel.lock = .locked) ∧
      (s.travel.lock = .unlocked → 24 ≤ s.travel.stopRun → vm = 0 → exec .enterStopped s = .next t ∧ t.travel.lock = .stopped)

/-! ### The lane eye and the divert schedule -/

/-- CASE_START (R116, R125, R126): the first schedule entry pushed and within its confirm window is confirmed, and its case joins the
lane with the fields of its sighting entry. With no such entry the case is a stray, which joins or, at an occupancy of 6, is counted. -/
def Obligations.CaseStartConfirmsOrIsStray : Prop :=
  ∀ s : State, s.start.state ≠ .starting →
    let found := s.divert.find? (fun d => decide ((d.phase = .fired ∨ d.phase = .spent) ∧ d.fire ≠ none ∧
      0 ≤ (s.travel.count - (d.arrival - 100)).toInt ∧
      ¬ 0 < (s.travel.count - (d.arrival + BitVec.ofNat 32 (d.belt + s.start.cfg.confirmTail))).toInt))
    let eye : State := { s with pins := { s.pins with laneBlocked := true } }
    (∀ d x, found = some d → s.sighting d.caseId = some x →
      exec .caseStart s = .next (({ eye with
        divert := s.divert.filter (fun o => decide (o.caseId ≠ d.caseId))
        claim := { s.claim with sightings := s.claim.sightings.filter (fun o => decide (o.caseId ≠ d.caseId)) }
        staging := { s.staging with
          lane := s.staging.lane ++
            [{ caseId := some x.caseId, product := some x.product, gate := x.gate, lap := some x.lap, line := x.line,
               staged := s.staging.clock, mark := none }] }
        planner := { s.planner with flag := true } } : State).finish)) ∧
    (found = none →
      let u := eye.raise .strayCase
      exec .caseStart s = .next (
        if s.occupancy < 6 then
          ({ u with staging := { u.staging with lane := u.staging.lane ++ [CaseRecord.stray u.staging.clock] },
                    planner := { u.planner with flag := true } } : State).finish
        else ({ u with staging := { u.staging with overflow := min 255 (u.staging.overflow + 1) } } : State).finish))

/-- R113 to R115 and R117 for a schedule of one case whose sighting entry is OURS or DIVERTING: within lead + 100 mm of its arrival, or
past that point, it is armed; within the lead it fires while the lane has room, is MISSED as LANE FULL while the lane is full, and becomes
SPENT unfired where its off point is past, the full lane notwithstanding (the model's choice, log 46). A FIRED case whose off point is
passed becomes SPENT. The valve is on exactly while the case is FIRED. In any phase a case past the end of its confirm window is MISSED as
NOT SEEN. A MISSED case leaves the schedule and the table, is released MISSED, is taken from its line's claimed count, and raises DIVERT
MISSED. What a change of the running travel starts is these tests and the passing of R85: every FREE, THEIRS or CLAIMING sighting entry
whose confirm window has ended leaves the table, no frame is sent and no event raised, and the own CLAIM of a CLAIMING one is withdrawn,
the first WAITING frame of its case (log 20). Both ends are inclusive: at the off point and at the window's end itself nothing happens. -/
def Obligations.LoneCaseIsArmedAndFired : Prop :=
  (∀ (s : State) (d : DivertEntry) (x : Sighting), s.divert = [d] → s.claim.sightings = [x] → x.caseId = d.caseId →
    x.state = .ours ∨ x.state = .diverting →
    let past := fun (mm : Nat) => 0 < (s.travel.count - (d.arrival + BitVec.ofNat 32 mm)).toInt
    let off : Prop := past d.belt
    let ended : Prop := past (d.belt + s.start.cfg.confirmTail)
    let lead : Nat := match s.travel.lock with
      | .locked => s.travel.v * s.start.cfg.leadTime / 1000
      | .unlocked => s.travel.vHold * s.start.cfg.leadTime / 1000
      | .stopped => 0
    let ahead : Int := (d.arrival - s.travel.count).toInt
    let full : Prop := 6 ≤ s.staging.lane.length
    let t := s.divertTests
    let becomes := fun (phase : DivertPhase) (fire : Option TravelMm) =>
      t = { s with divert := [{ d with phase := phase, fire := fire }],
                   claim := { s.claim with sightings := [{ x with state := .diverting }] } }
    let missed := t.divert = [] ∧ t.claim.sightings = [] ∧ t.events = (s.raise .divertMissed).events ∧
      (s.bus.mode = .full → s.claim.backlog = [] → s.bus.inGroup .reportGroup < 7 → ∃ f ∈ t.bus.queue, f.payload = .release d.caseId 2) ∧
      (s.bus.mode = .full → s.claim.backlog ≠ [] ∨ 7 ≤ s.bus.inGroup .reportGroup → s.claim.backlog.length < 24 →
        t.claim.backlog = s.claim.backlog ++ [(d.caseId, .missed)]) ∧
      (∀ n l, x.line = .counted n → s.lineAt n = some l →
        t.lineAt n = some { l with claimed := l.claimed - 1 } ∧ t.claim.interest = t.interestNow ∧ t.planner.flag = true) ∧
      (∀ n, x.line ≠ .counted n → t.lineAt n = s.lineAt n) ∧ t.job.record = s.job.record ∧ t.start = s.start ∧ t.travel = s.travel ∧
      t.staging = s.staging ∧ t.map = s.map ∧ t.arm = s.arm ∧ t.plate = s.plate ∧ t.pins = s.pins ∧ t.pending = s.pending
    s.travelChanged = t ∧ (t.valve = true ↔ ∃ e ∈ t.divert, e.phase = .fired) ∧
    (ended → missed) ∧
    (¬ ended →
      ((d.phase = .waiting ∧ x.state = .ours) ∨ (d.phase = .armed ∧ x.state = .diverting) → d.fire = none →
        (d.phase = .waiting → (lead + 100 : Nat) < ahead → t = s) ∧
        (d.phase = .armed ∨ ahead ≤ (lead + 100 : Nat) → (lead : Int) < ahead → becomes .armed none) ∧
        (ahead ≤ lead → off → becomes .spent none) ∧
        (ahead ≤ lead → ¬ off → ¬ full → becomes .fired (some s.travel.count)) ∧
        (ahead ≤ lead → ¬ off → full → missed)) ∧
      (d.phase = .fired → x.state = .diverting → (¬ off → t = s) ∧ (off → becomes .spent d.fire)) ∧
      (d.phase = .spent → t = s))) ∧
  (∀ s : State, s.divert = [] → (s.claim.sightings.map (fun e => e.caseId)).Nodup →
    let stays := fun (e : Sighting) => e.state = .ours ∨ e.state = .diverting ∨
      (s.travel.count - (e.arrival + BitVec.ofNat 32 (s.beltLength e + s.start.cfg.confirmTail))).toInt ≤ 0
    let t := s.travelChanged
    t = { s with claim := { s.claim with sightings := s.claim.sightings.filter (fun e => decide (stays e)) }, bus := t.bus } ∧
    ((∀ e ∈ s.claim.sightings, e.state = .claiming → stays e) → t.bus = s.bus) ∧
    (∀ e, s.claim.sightings = [e] → e.state = .claiming → ¬ stays e → t.bus =
      { s.bus with queue := removeFirst (fun f => isClaimOf e.caseId f.payload && !f.sending) s.bus.queue })) ∧
  ∀ (s : State) (e : Sighting),
    (e.gate.length ≠ 0 → s.beltLength e = e.gate.length) ∧
    (∀ n l, e.gate.length = 0 → e.line = .counted n → s.lineAt n = some l → s.beltLength e = l.length) ∧
    (∀ n l, e.gate.length = 0 → (∀ k, e.line ≠ .counted k) → n < 64 → s.lineAt n = some l → l.product = e.product →
      (∀ i l', i < n → s.lineAt i = some l' → l'.product ≠ e.product) → s.beltLength e = l.length)

/-! ### Frames on the line -/

/-- R74, R75, R76: a frame seen joins the history of the last 32; the consecutive-good count increases by one with a good frame, up
to 32, and returns to 0 with one that is not; 16 frames vetoed by the part mute it, and 32 good ones in a row unmute it. -/
def Obligations.FramesSeenDriveTheMuteState : Prop :=
  ∀ (s : State) (vetoed good : Bool) (drive : LineDrive), s.bus.history.length ≤ 32 →
    let t := s.frameSeen vetoed good drive
    t.bus.history = (s.bus.history ++ [(⟨vetoed, good⟩ : Seen)]).drop (s.bus.history.length - 31) ∧
    t.bus.consecutiveGood = (if good then min 32 (s.bus.consecutiveGood + 1) else 0) ∧
    t.bus.drive = drive ∧ t.bus.idle = false ∧
    (s.bus.muted = false →
      (t.bus.muted = true ↔ 16 ≤ (t.bus.history.filter (fun e => e.vetoed)).length)) ∧
    (s.bus.muted = true → (t.bus.muted = false ↔ t.bus.consecutiveGood = 32)) ∧
    t.claim = s.claim ∧ t.job = s.job ∧ t.map = s.map ∧ t.planner = s.planner ∧ t.travel = s.travel ∧ t.divert = s.divert ∧
    t.staging = s.staging ∧ t.arm = s.arm ∧ t.plate = s.plate ∧ t.start = s.start ∧ t.pins = s.pins ∧ t.pending = s.pending

/-- R67, R77, R96: RELEASE_JOB_FORM, JOB_END and SHORT_LINE of either origin, and an own RELEASE, reach no block: with another station's
the blocks stay as the accepted frame leaves them, and an own one only leaves the queue. Nothing is heard in line mode OFF, nor in
LISTEN before the first idle found. A REFUSED_FRAME counts in the veto history and in the refused-frame count, and reaches no block
either. -/
def Obligations.FramesThatReachNoBlock : Prop :=
  (∀ (kind : BitVec 4) (sender : Station) (length : BitVec 6) (s : State),
    (10 ≤ kind.toNat ∨ sender = 0 ∨ sender = 31 ∨ lengthAllowed kind.toNat length.toNat = false) →
    let u := Safety.heardFrom s
    (s.bus.hears = true → exec (.refusedFrame kind sender length) s =
      .next (({ u with bus := { u.bus with refused := min 255 (u.bus.refused + 1) } } : State).finish)) ∧
    (s.bus.hears = false → exec (.refusedFrame kind sender length) s = .next s)) ∧
  (∀ b : Bus, b.hears = true ↔ b.mode ≠ .off ∧ b.receiving = true) ∧
  ∀ (c : Instr) (p : TxPayload) (o : Origin) (s : State),
    ((∃ j r, c = .releaseJobForm o j r ∧ p = .releaseJob j r) ∨ (∃ j out n kg k, c = .jobEnd o j out n kg k ∧ p = .jobEnd j out n kg k) ∨
      (∃ j l q, c = .shortLine o j l q ∧ p = .shortLine j l q) ∨ (∃ id r, o = .own ∧ c = .release o id r ∧ p = .release id r)) →
    (∀ sender, o = .other sender → sender ≠ 0 → sender ≠ 31 → s.bus.hears = true → exec c s = .next (Safety.heardFrom s).finish) ∧
    (∀ sender, o = .other sender → s.bus.hears = false → exec c s = .next s) ∧
    (∀ f, o = .own → s.bus.sendingFrame = some f → f.payload = p → exec c s = .next (Safety.heardOwn s p).finish)

/-- DAMAGED_FRAME (R63, R64, R74, R76, R77): a part that may veto answers a bad check in the veto slot and a bad length or missing fill
bit with a break; else it discards the frame at its own side alone. A break inside the arbitration field makes no entry in the
history. VOIDED_FRAME: a frame voided in its slot is discarded with the rest and entered as good and not vetoed by the part; a veto
bit is echoed where the part may drive, and an echo bit alone is not. One cut off by another receiver's break is entered as not good,
and that the part drives no break of its own for it is the model's choice (log 18). -/
def Obligations.DamagedFramesAreVetoedAndEchoed : Prop :=
  ∀ (levels : List Bool) (s : State), s.bus.hears = true →
    let may := s.bus.muted = false ∧ (s.bus.mode = .full ∨ s.start.station ≠ none)
    (takeIn levels = .badCheck → may → exec (.damagedFrame levels) s = .next (s.frameSeen true false .vetoAndEcho).finish) ∧
    ((takeIn levels = .badLength ∨ takeIn levels = .missingFill false) → may →
      exec (.damagedFrame levels) s = .next (s.frameSeen true false .brk).finish) ∧
    (takeIn levels = .missingFill true → may →
      exec (.damagedFrame levels) s = .next (({ s with bus := { s.bus with drive := .brk, idle := false } } : State).finish)) ∧
    ((takeIn levels = .badCheck ∨ takeIn levels = .badLength ∨ ∃ a, takeIn levels = .missingFill a) → ¬ may →
      exec (.damagedFrame levels) s = .next (s.frameSeen false false .recessive).finish) ∧
    (may → exec (.voidedFrame .veto) s = .next (s.frameSeen false true .echo).finish) ∧
    (¬ may → exec (.voidedFrame .veto) s = .next (s.frameSeen false true .recessive).finish) ∧
    exec (.voidedFrame .echoOnly) s = .next (s.frameSeen false true .recessive).finish ∧
    exec (.voidedFrame .brk) s = .next (s.frameSeen false false .recessive).finish

/-- LINE_IDLE (R70, R77, R93): the part receives from now on; in line mode FULL the first WAITING frame of the queue, where it is no
CLAIM, begins, and an ADOPT's bid state becomes SENDING with it (R4). A CLAIM at the head begins while it stands, with its entry
CLAIMING on its lap and more than the claim margin left; one that has expired leaves the queue, its CLAIMING entry becomes FREE, any
other entry of the lap loses its flag, and the next WAITING frame is considered. In line mode LISTEN nothing begins. A job held is
COLLECTING or ACTIVE, so that no drain ends with the row. That an expired CLAIM frees an entry of its own lap alone (log 44), and
that a beginning ADOPT sets the bid of its job id even where that is a newer bid (log 54), are the model's choice. -/
def Obligations.IdleLineBeginsTheFirstFrame : Prop :=
  ∀ s : State, s.planner.result = none → s.planner.holds.any = false → s.bus.sendingFrame = none →
    (∀ r, s.job.record = some r → r.phase = .collecting ∨ r.phase = .active) →
    (s.bus.mode = .listen →
      exec .lineIdle s = .next { s with bus := { s.bus with idle := true, receiving := true, drive := .recessive } }) ∧
    (∀ f rest, s.bus.mode = .full → s.bus.queue = f :: rest →
      let begun : Bus :=
        { s.bus with queue := { f with sending := true } :: rest, idle := false, receiving := true, drive := .recessive }
      ((∀ c lap, f.payload ≠ .claim c lap) →
        exec .lineIdle s = .next { s with
          bus := begun
          job := { s.job with offer := s.job.offer.map (fun o => if f.payload = .adopt o.job then { o with bid := .sending } else o) } }) ∧
      (∀ c lap, f.payload = .claim c lap → (s.claim.sightings.map (fun e => e.caseId)).Nodup →
        let stands := ∃ e ∈ s.claim.sightings, e.caseId = c ∧ e.state = .claiming ∧ e.lap = lap.toNat ∧
          (s.start.cfg.claimMargin : Int) < (e.arrival - s.travel.count).toInt
        let expired := fun (e : Sighting) =>
          if e.caseId = c ∧ e.lap = lap.toNat then
            { e with state := if e.state = .claiming then .free else e.state, queued := false }
          else e
        (stands → exec .lineIdle s = .next { s with bus := begun }) ∧
        (¬ stands → exec .lineIdle s = exec .lineIdle { s with
          bus := { s.bus with queue := rest }, claim := { s.claim with sightings := s.claim.sightings.map expired } })))

/-- LOST_ARBITRATION (R62, R71) and ATTEMPT_VOIDED (R64, R71, R72, R74, R76). A frame lost, or voided below the eighth time, goes back
to WAITING, a voided one with one veto more. Its owner is told: an ADOPT's bid state returns to QUEUED (R4); a CLAIM whose case is
THEIRS is withdrawn (R92), as is one whose case the claimant has released since (FREE, log 49) and one whose job is no longer ACTIVE or
whose part is locked out, its entry becoming FREE (R97; DEDUCED, log 21); a CELL STATUS gives way to the one that waits (R71). At the eighth
veto the frame is dropped: the offer record is EMPTY (R4), a CLAIMING entry becomes FREE and is decided again (R94), a waiting CELL
STATUS or report takes the place (R69, R71), and BUS TROUBLE is raised. That an ADOPT acts on the offer record of its job id, be it that
of a newer bid, and on no other, is the model's choice (log 54). That a dropped CLAIM frees an entry of its own lap alone is log 44, and that a withdrawal takes the first WAITING frame of its key
log 20. What an own attempt is entered as, good where it was voided in its slot and not good at a clash or a break, and that the part
drives a break at another station's, are DEDUCED (log 19). -/
def Obligations.FailedAttemptsReturnOrDrop : Prop :=
  ∀ (s : State) (f : TxFrame), s.bus.sendingFrame = some f →
    let lost : State := { s with bus := { s.bus with idle := false, drive := .recessive } }
    let voided := fun (how : VoidCause) => s.frameSeen false (decide (how = .veto ∨ how = .echoOnly))
      (if s.bus.muted = true ∨ how = .echoOnly then .recessive else if how = .veto then .echo else .brk)
    let entries := fun (u : State) (c : CaseId) (g : Sighting → Sighting) =>
      ({ u with claim := { u.claim with sightings := u.claim.sightings.map (fun e => if e.caseId = c then g e else e) } } : State)
    let renewed := fun (u : State) (p : StatusFields) =>
      ({ u with bus := { (u.bus.dropStatus.insert { payload := .status p, urgency := 0, sending := false, vetoes := 0 }) with
                           pendingStatus := none } } : State)
    (∀ (c : Instr) (u : State) (vetoes : Nat),
      (c = .lostArbitration ∧ u = lost ∧ vetoes = f.vetoes) ∨
        (∃ how, c = .attemptVoided how ∧ u = voided how ∧ vetoes = f.vetoes + 1 ∧ vetoes < 8) →
      let back : State := { u with bus := { u.bus with
        queue := u.bus.queue.map (fun g => if g.sending then { g with sending := false, vetoes := vetoes } else g) } }
      let withdrawn := fun (k : CaseId) => ({ back with bus := back.bus.withdraw (isClaimOf k) } : State)
      let run := exec c s
      (f.payload.group = .reportGroup → run = .next back.finish) ∧
      (∀ j, f.payload = .adopt j → run = .next (({ back with
        job := { back.job with offer := back.job.offer.map (fun o => if o.job = j then { o with bid := .queued } else o) } } :
          State).finish)) ∧
      (∀ fs, f.payload = .status fs →
        (u.bus.pendingStatus = none → run = .next back.finish) ∧
        (∀ p, u.bus.pendingStatus = some p → run = .next (renewed back p).finish)) ∧
      (∀ k lap, f.payload = .claim k lap →
        (s.sighting k = none → run = .next back.finish) ∧
        (∀ e, s.sighting k = some e →
          let owned := s.phase = some .active ∧ s.start.lockout = false
          (e.lap ≠ lap.toNat → run = .next back.finish) ∧
          (e.lap = lap.toNat → (∃ o, e.state = .theirs o) ∨ e.state = .free →
            run = .next (entries (withdrawn k) k (fun e => { e with queued := false })).finish) ∧
          (e.lap = lap.toNat → e.state = .claiming → owned → run = .next back.finish) ∧
          (e.lap = lap.toNat → e.state = .claiming → ¬ owned →
            run = .next (entries (withdrawn k) k (fun e => { e with state := .free, queued := false })).finish) ∧
          (e.state = .ours ∨ e.state = .diverting → run = .next back.finish)))) ∧
    (∀ how : VoidCause, 8 ≤ f.vetoes + 1 →
      let u := voided how
      let gone : State := { u with bus := { u.bus with queue := removeFirst (fun g => g.sending) u.bus.queue } }
      let dropped := fun (t : State) => exec (.attemptVoided how) s = .next (t.raise .busTrouble).finish
      (f.payload.group = .reportGroup → dropped gone.offerReports) ∧
      (∀ j, f.payload = .adopt j →
        dropped { gone with job := { gone.job with offer := gone.job.offer.filter (fun o => decide (o.job ≠ j)) } }) ∧
      (∀ fs, f.payload = .status fs →
        (u.bus.pendingStatus = none → dropped gone) ∧ (∀ p, u.bus.pendingStatus = some p → dropped (renewed gone p))) ∧
      (∀ k lap, f.payload = .claim k lap →
        (s.sighting k = none → dropped gone) ∧
        (∀ e, s.sighting k = some e →
          (e.lap ≠ lap.toNat → dropped gone) ∧
          (e.lap = lap.toNat → e.state = .claiming →
            dropped ((entries gone k (fun e => { e with state := .free, queued := false })).decideClaim k)) ∧
          (e.lap = lap.toNat → e.state ≠ .claiming → dropped (entries gone k (fun e => { e with queued := false }))))))

/-- R61: from the start bit to the end of the frame check, no six equal levels stand in a row, whatever the frame. -/
def Obligations.NoSixEqualLevelsInAFrame : Prop :=
  ∀ (f : BusFrame) (before after : List Bool) (b : Bool), f.levels ≠ before ++ List.replicate 6 b ++ after

/-- R61, R63, R65, R66: what the part puts on the line for a queued frame, taken in as a receiver takes it, is a good frame with the
same fields, and as an own frame it is the command of its payload. No bit of a frame is dropped. -/
def Obligations.OwnFramesAreTakenInAsSent : Prop :=
  ∀ (f : TxFrame) (own : Station), 1 ≤ own.toNat → own.toNat ≤ 30 → f.urgency ≤ 127 →
    (∀ fields, f.payload = .status fields → fields.wanted.length ≤ 3) →
    takeIn (f.busFrame own).levels = .good (f.busFrame own) ∧ (f.busFrame own).command .own = f.payload.heardAs

/-! ### Jobs -/

/-- JOB_OFFER (R3): taken by an idle, unlocked, numbered part with no job, no bid and a TARED plate, for an offer of its own footprint
code; an ADOPT is queued at an urgency that falls with the seconds since the tare, and the bid is recorded. Else nothing is recorded. -/
def Obligations.OfferIsBidFor : Prop :=
  ∀ (sender : Station) (job : JobId) (n fp : Byte) (h l : BitVec 16) (s : State), s.bus.hears = true → sender ≠ 0 → sender ≠ 31 →
    let u := Safety.heardFrom s
    let wanted := u.start.state = .idle ∧ u.start.station ≠ none ∧ u.start.lockout = false ∧ u.job.record = none ∧ u.job.offer = none ∧
      u.plate.state = .tared ∧ fp.toNat = u.start.cfg.footprint
    (¬ (wanted ∧ u.bus.mode = .full ∧ u.bus.inGroup .claimGroup < 4) →
      exec (.jobOffer sender job n fp h l) s = .next u.finish) ∧
    (wanted → u.bus.mode = .full → u.bus.inGroup .claimGroup < 4 →
      exec (.jobOffer sender job n fp h l) s = .next (({ u with
        bus := u.bus.place (.adopt job) (127 - min 127 ((u.plate.clock - u.plate.taredAt) / 1000))
        job := { u.job with
          offer := some
            { job := job, lineCount := max 1 (min 64 n.toNat), footprint := fp.toNat, heightLimit := h.toNat, loadLimit := l.toNat,
              bid := .queued, cancelled := false } } } : State).finish))

/-- ADOPT, own, heard (R5) for the offer held: with no job, a TARED plate, no lockout and no cancel mark the job is adopted with the
effective limits of R9; else it is abandoned. ADOPT of another station (R4): the offer record for the job is cleared; in QUEUED its
waiting frame is withdrawn, and a frame that has begun runs on; a bid for another job stays. That an own
ADOPT decides a bid of its job id that is newer than the frame is the model's choice (log 54). -/
def Obligations.AdoptHeardDecidesTheBid : Prop :=
  (∀ (sender : Station) (job : JobId) (s : State), s.bus.hears = true → sender ≠ 0 → sender ≠ 31 →
      let u := Safety.heardFrom s
      (∀ o, u.job.offer = some o → o.job = job → o.bid = .sending →
        exec (.adopt (.other sender) job) s = .next (({ u with job := { u.job with offer := none } } : State).finish)) ∧
      (∀ o, u.job.offer = some o → o.job = job → o.bid = .queued →
        exec (.adopt (.other sender) job) s = .next (({ u with
          bus := u.bus.withdraw (isAdoptOf job), job := { u.job with offer := none } } : State).finish)) ∧
      ((∀ o, u.job.offer = some o → o.job ≠ job) → exec (.adopt (.other sender) job) s = .next u.finish)) ∧
  ∀ (s : State) (f : TxFrame) (o : Offer), s.bus.sendingFrame = some f → f.payload = .adopt o.job → s.job.offer = some o →
    let u := Safety.heardOwn s (.adopt o.job)
    let free := s.job.record = none ∧ s.plate.state = .tared ∧ s.start.lockout = false ∧ o.cancelled = false
    (free → ∃ t : State, exec (.adopt .own o.job) s = .next t.finish ∧
      t.job = { u.job with
        lines := List.replicate 64 none
        offer := none
        record := some
          { job := o.job, lineCount := o.lineCount, footprint := o.footprint,
            effHeight := if o.heightLimit = 0 then s.start.cfg.heightLimit else min o.heightLimit s.start.cfg.heightLimit,
            effLoad := 1000 * (if o.loadLimit = 0 then s.start.cfg.loadLimitKg else min o.loadLimit s.start.cfg.loadLimitKg),
            phase := .collecting, outcome := none, stall := none, collect := some 3000 } } ∧
      t.map = { s.map with seq := 0 } ∧ t.claim = { u.claim with interest := [] } ∧
      t.planner = { s.planner with flag := true, pass := none, result := none } ∧ t.events = (u.raise .jobAdopted).events ∧
      t.start = s.start ∧ t.travel = s.travel ∧ t.divert = s.divert ∧ t.staging = s.staging ∧ t.arm = s.arm ∧ t.plate = s.plate ∧
      t.pins = s.pins ∧ t.pending = s.pending) ∧
    (¬ free → ∃ t : State, exec (.adopt .own o.job) s = .next t.finish ∧
      t = ({ (u.releaseJobForm o.job).raise .jobAbandoned with
        job := { u.job with offer := none } } : State))

/-- JOB_LINE (R6, R7): in COLLECTING a line below the line count is written, clamped, over what stood there; one at or above it, and any
line once the job is no longer COLLECTING, is counted as ignored; lines of other jobs are nothing. -/
def Obligations.JobLineIsCollected : Prop :=
  ∀ (sender : Station) (job : JobId) (n : Byte) (p : ProductCode) (ord m l w h : BitVec 16) (k q fl : Byte) (s : State),
    s.bus.hears = true → sender ≠ 0 → sender ≠ 31 →
    let u := Safety.heardFrom s
    let line : LineRec :=
      { product := p, ordered := min 999 ord.toNat, mass := max 1 (min 65000 m.toNat), length := max 50 (min 800 l.toNat),
        width := max 50 (min 800 w.toNat), height := max 20 (min 600 h.toNat), crushClass := min 7 k.toNat, rank := min 15 q.toNat,
        faceLock := decide (fl ≠ 0), claimed := 0, placed := 0, status := .lineOpen }
    let lines := u.job.lines.set n.toNat (some line)
    let run := exec (.jobLine sender job n p ord m l w h k q fl) s
    (u.job.record = none → run = .next u.finish) ∧
    (∀ r, u.job.record = some r → r.job ≠ job → run = .next u.finish) ∧
    (∀ r, u.job.record = some r → r.job = job → r.phase ≠ .collecting ∨ r.lineCount ≤ n.toNat →
      run = .next (({ u with job := { u.job with ignored := min 255 (u.job.ignored + 1) } } : State).finish)) ∧
    (∀ r, u.job.record = some r → r.job = job → r.phase = .collecting → n.toNat < r.lineCount →
      (∃ i, i < r.lineCount ∧ lines.getD i none = none) → run = .next (({ u with job := { u.job with lines := lines } } : State).finish))

/-- R6, R9, R13, R14: the line that completes the build list makes the job ACTIVE: the collect timer stops, every line gets its status,
the stall timer starts, the interest set holds the products of the lines that can take a case, and, an OPEN line being there, the job
stays ACTIVE. With every line DONE it closes at once as COMPLETE, and with every line DONE or UNPLACEABLE as SHORT, with both timers
stopped and nothing wanted. -/
def Obligations.LastLineStartsTheBuild : Prop :=
  ∀ (s : State) (r : JobRecord) (n : Nat) (line : LineRec), s.job.record = some r → r.phase = .collecting → n < r.lineCount →
    r.lineCount ≤ 64 → s.job.lines.length = 64 →
    let lines := s.job.lines.set n (some line)
    let status := fun (l : LineRec) =>
      if l.ordered = 0 then LineStatus.lineDone
      else if r.effHeight < l.height then .unplaceable
      else if fitsSomewhere r.footprint l.length l.width l.faceLock then .lineOpen
      else .unplaceable
    let held := fun (l : LineRec) => ∃ i, lines.getD i none = some l
    (∀ i, i < r.lineCount → lines.getD i none ≠ none) →
    let t := s.takeLine r.job n line
    let closes := fun (o : JobOutcome) =>
      t.job.record = some { r with phase := .closing, outcome := some o, stall := none, collect := none } ∧ t.claim.interest = []
    ((∃ l, held l ∧ status l = .lineOpen) →
      t.job.record = some { r with phase := .active, collect := none, stall := some (s.start.cfg.stallTime * 1000) } ∧
      t.job.lines = lines.map (fun o => o.map (fun l => { l with status := status l })) ∧
      (∀ p, p ∈ t.claim.interest ↔ ∃ i l, t.job.lines.getD i none = some l ∧ l.product = p ∧ l.status = .lineOpen ∧
        0 < l.ordered - l.placed - l.claimed) ∧
      t.claim.interest.Nodup ∧ t.divert = s.divert) ∧
    ((∀ l, held l → status l = .lineDone) → closes .complete) ∧
    ((∀ l, held l → status l = .lineDone ∨ status l = .unplaceable) → (∃ l, held l ∧ status l = .unplaceable) → closes .short) ∧
    t.planner.flag = true ∧ t.planner.pass = none ∧ t.planner.result = none ∧
    t.start = s.start ∧ t.map = s.map ∧ t.travel = s.travel ∧ t.staging = s.staging ∧ t.arm = s.arm ∧
    t.plate = s.plate ∧ t.events = s.events ∧ t.pins = s.pins ∧ t.pending = s.pending

/-- JOB_CANCEL (R15, R4, R97): a matching job in COLLECTING or ACTIVE closes as CANCELLED with both timers stopped and the planner told,
and no entry stays OURS, nor CLAIMING unless its CLAIM is on the line; in CLOSING and ENDED it is ignored. With no such job it acts on
a matching bid: in QUEUED the waiting ADOPT is withdrawn, frame and record; where the ADOPT has begun, or in SENDING, the offer record
stays with the cancelled mark. Any other JOB CANCEL is discarded. -/
def Obligations.JobCancelClosesTheJob : Prop :=
  ∀ (sender : Station) (job : JobId) (s : State), s.bus.hears = true → sender ≠ 0 → sender ≠ 31 →
    (s.claim.sightings.map (fun e => e.caseId)).Nodup →
    let u := Safety.heardFrom s
    let run := exec (.jobCancel sender job) s
    (∀ r, u.job.record = some r → r.job = job → r.phase = .collecting ∨ r.phase = .active →
      ∃ t : State, run = .next t.finish ∧
        t.job.record = some { r with phase := .closing, outcome := some .cancelled, stall := none, collect := none } ∧
        t.claim.interest = [] ∧ t.planner.flag = true ∧ t.planner.pass = none ∧ t.planner.result = none ∧
        (∀ e ∈ t.claim.sightings, e.state ≠ .ours ∧
          (e.state = .claiming → ∃ f ∈ t.bus.queue, f.sending = true ∧ ∃ lap : Byte, lap.toNat = e.lap ∧ f.payload = .claim e.caseId lap)) ∧
        t.start = s.start ∧ t.map = s.map ∧ t.travel = s.travel ∧ t.staging = s.staging ∧ t.arm = s.arm ∧ t.plate = s.plate ∧
        t.pins = s.pins ∧ t.pending = s.pending) ∧
    (∀ r, u.job.record = some r → r.job = job → r.phase = .closing ∨ r.phase = .ended → run = .next u.finish) ∧
    (∀ o, (∀ r, u.job.record = some r → r.job ≠ job) → u.job.offer = some o → o.job = job →
      let bid := fun (b : Bus) (x : Option Offer) => ({ u with bus := b, job := { u.job with offer := x } } : State)
      let begun := u.bus.withdrawAnswer (isAdoptOf job) = .begun
      (o.bid = .queued → ¬ begun → run = .next (bid (u.bus.withdraw (isAdoptOf job)) none).finish) ∧
      (o.bid = .sending ∨ begun → run = .next (bid u.bus (some { o with bid := .sending, cancelled := true })).finish)) ∧
    ((∀ r, u.job.record = some r → r.job ≠ job) → (∀ o, u.job.offer = some o → o.job ≠ job) → run = .next u.finish)

/-- COLLECT_TIMEOUT (R8) in COLLECTING and STALL_TIMEOUT (R14) in ACTIVE, at the timer's end. -/
def Obligations.JobTimersEndTheirPhase : Prop :=
  ∀ (s : State) (r : JobRecord), s.job.record = some r →
    (r.phase = .collecting → r.collect = some 0 →
      ∃ t : State, exec .collectTimeout s = .next t.finish ∧ t.job = { s.job with record := none, lines := List.replicate 64 none } ∧
        t.claim = { s.claim with interest := [] } ∧ t.planner = { s.planner with flag := true, pass := none, result := none } ∧
        t.events = (s.raise .jobAbandoned).events ∧
        (s.bus.mode = .full → s.bus.inGroup .reportGroup < 7 → ∃ f ∈ t.bus.queue, f.payload = .releaseJob r.job 5) ∧
        t.start = s.start ∧ t.map = s.map ∧ t.travel = s.travel ∧ t.divert = s.divert ∧ t.staging = s.staging ∧ t.arm = s.arm ∧
        t.plate = s.plate ∧ t.pins = s.pins ∧ t.pending = s.pending) ∧
    (r.phase = .active → r.stall = some 0 → (s.claim.sightings.map (fun e => e.caseId)).Nodup →
      ∃ t : State, exec .stallTimeout s = .next t.finish ∧
        t.job.record = some { r with phase := .closing, outcome := some .short, stall := none, collect := none } ∧
        t.claim.interest = [] ∧ (∀ e ∈ t.claim.sightings, e.state ≠ .ours) ∧
        t.start = s.start ∧ t.map = s.map ∧ t.travel = s.travel ∧ t.staging = s.staging ∧ t.arm = s.arm ∧ t.plate = s.plate ∧
        t.events = s.events ∧ t.pins = s.pins ∧ t.pending = s.pending)

/-- DRAIN_COMPLETE runs in every state. That the row makes the drain test of R16 and R20, and else changes nothing, is the model's
choice (log 4), since the test is also made inside each step. With nothing staged, in transit or in flight, a CLOSING job is ENDED and
reported, JOB END before its SHORT LINEs, with stack-complete on, and an aborted job's record is cleared. While a case is staged, OURS
or DIVERTING, or a placement is in flight (provisional, under watch, or an outstanding PLACE), and in every other phase and with no
job, nothing changes. -/
def Obligations.DrainEndsTheJob : Prop :=
  ∀ s : State,
    let staged := s.staging.lane ≠ [] ∨ (∃ b ∈ s.staging.buffer, b ≠ none) ∨ s.staging.gripper ≠ none
    let transit := ∃ e ∈ s.claim.sightings, e.state = .ours ∨ e.state = .diverting
    let flight := s.map.prov ≠ none ∨ s.plate.watch ≠ none ∨ (∃ cmd, s.arm.cmd = some cmd ∧ cmd.action.command = .place)
    let gone := ¬ (staged ∨ transit ∨ flight)
    (∃ t : State, exec .drainComplete s = .next t) ∧
    (∀ r o, gone → s.job.record = some r → r.phase = .closing → r.outcome = some o → o ≠ .aborted →
      let u := s.updRecord (fun r => { r with phase := .ended })
      ∃ t : State, exec .drainComplete s = .next t.finish ∧ t = (u.jobChanged).reportEnd r.job o s.casesPlaced s.map.loadKg ∧
        t.stackComplete = true ∧ t.job.record = some { r with phase := .ended } ∧ t.job.lines = s.job.lines ∧ t.map = s.map) ∧
    (∀ r, gone → s.job.record = some r → r.phase = .ended → r.outcome = some .aborted →
      exec .drainComplete s = .next (({ s with
        job := { s.job with record := none, lines := List.replicate 64 none }
        claim := { s.claim with interest := [] }
        planner := { s.planner with flag := true, pass := none, result := none } } : State).finish)) ∧
    (staged ∨ transit ∨ flight → exec .drainComplete s = .next s.finish) ∧
    ((∀ r, s.job.record = some r → r.phase = .collecting ∨ r.phase = .active ∨ (r.phase = .ended ∧ r.outcome ≠ some .aborted)) →
      exec .drainComplete s = .next s.finish)

/-- R18, R19, R69: the report of an ended job, of queue and list together. Its entries are the JOB END, with the outcome's code, the
cases placed and the short line count, and then one SHORT LINE for each line short of its order, in ascending line number. In line
mode FULL, with the list empty, the first of them stand in the transmit queue in that order, and those the report group has no place
for stay in the list in that order; with the group full all of them do. In another line mode every one stays in the list. -/
def Obligations.EndReportListsTheShortLines : Prop :=
  ∀ (s : State) (job : JobId) (o : JobOutcome) (placed kg : Nat), s.job.endReports = [] → s.job.lines.length = 64 →
    placed ≤ 65535 → kg ≤ 65535 → (∀ i l, s.job.lines.getD i none = some l → l.ordered ≤ 999) →
    let t := s.reportEnd job o placed kg
    let short := fun (i : Nat) (l : LineRec) => s.job.lines.getD i none = some l ∧ l.placed < l.ordered
    (∃ n lines sent kept, .jobEnd job o.code (BitVec.ofNat 16 placed) (BitVec.ofNat 16 kg) (BitVec.ofNat 8 n) :: lines = sent ++ kept ∧
      lines.length = n ∧ n ≤ 64 ∧
      (∀ i l, short i l → .shortLine job (BitVec.ofNat 8 i) (BitVec.ofNat 16 (l.ordered - l.placed)) ∈ lines) ∧
      (∀ x ∈ lines, ∃ i l, short i l ∧ x = .shortLine job (BitVec.ofNat 8 i) (BitVec.ofNat 16 (l.ordered - l.placed))) ∧
      lines.Pairwise (fun x y => ∀ i j q q', x = .shortLine job i q → y = .shortLine job j q' → i.toNat < j.toNat) ∧
      t.job.endReports = kept ∧ sent.Sublist (t.bus.queue.map (fun f => f.payload)) ∧
      (s.bus.mode = .full → kept ≠ [] → 7 ≤ t.bus.inGroup .reportGroup) ∧
      (s.bus.mode = .full → 7 ≤ s.bus.inGroup .reportGroup → sent = []) ∧
      (s.bus.mode ≠ .full → sent = [])) ∧
    t.job.record = s.job.record ∧ t.job.lines = s.job.lines

/-! ### Sightings and claims -/

/-- CLAIM, own (R90 to R92, R94, R95). For a case not in the table it queues a RELEASE with reason MISSED and counts nothing. For an entry
of another lap it is ignored. For one that is THEIRS, or that the claimant has released since (FREE, where R90 has no such case and the
model's choice is log 52), it is heard second: it is ignored and the flag becomes no. Heard for a CLAIMING entry of the same lap, in an
ACTIVE job with room on line `n`, the lowest-numbered such line (R10, R91, R112): the entry becomes OURS with that line, the line's
claimed count increases by one, and the case stands WAITING in the schedule. Stated for an empty schedule and a case still ahead of its arming point, so that nothing is fired at once. -/
def Obligations.OwnClaimWinsTheCase : Prop :=
  (∀ (c : CaseId) (lap : Byte) (s : State) (f : TxFrame), s.bus.sendingFrame = some f → f.payload = .claim c lap →
    let u := Safety.heardOwn s (.claim c lap)
    let run := exec (.claim .own c lap) s
    (s.sighting c = none → ∃ t : State, run = .next t.finish ∧
      (s.bus.mode = .full → s.claim.backlog = [] → s.bus.inGroup .reportGroup < 7 → ∃ g ∈ t.bus.queue, g.payload = .release c 2) ∧
      t.claim.sightings = s.claim.sightings ∧ t.job = s.job ∧ t.divert = s.divert ∧ t.staging = s.staging) ∧
    (∀ e, s.sighting c = some e →
      (e.lap ≠ min 15 lap.toNat → run = .next u.finish) ∧
      (e.lap = min 15 lap.toNat → (∃ o, e.state = .theirs o) ∨ e.state = .free → run = .next (({ u with claim := { u.claim with
        sightings := u.claim.sightings.map (fun e => if e.caseId = c then { e with queued := false } else e) } } : State).finish)))) ∧
  ∀ (c : CaseId) (lap : Byte) (s : State) (f : TxFrame) (e : Sighting) (r : JobRecord) (n : Nat) (l : LineRec),
    s.bus.sendingFrame = some f → f.payload = .claim c lap → s.sighting c = some e → e.state = .claiming → e.lap = min 15 lap.toNat →
    s.job.record = some r → r.phase = .active →
    s.lineAt n = some l → l.product = e.product → l.status = .lineOpen → 0 < l.ordered - l.placed - l.claimed →
    (∀ i l', i < n → s.lineAt i = some l' → l'.product = e.product → l'.status ≠ .lineOpen ∨ l'.ordered - l'.placed - l'.claimed = 0) →
    s.divert = [] → (s.lead + 100 : Nat) < (e.arrival - s.travel.count).toInt → (e.arrival - s.travel.count).toInt < 2 ^ 30 →
    s.start.cfg.confirmTail ≤ 1000 →
    ∃ t : State, exec (.claim .own c lap) s = .next t.finish ∧
      t.sighting c = some { e with state := .ours, queued := false, line := .counted n } ∧
      t.lineAt n = some { l with claimed := l.claimed + 1 } ∧ (∀ i, i ≠ n → t.lineAt i = s.lineAt i) ∧
      t.divert = [{ caseId := e.caseId, arrival := e.arrival,
                    belt := max 50 (min 800 (if e.gate.length = 0 then l.length else e.gate.length)), phase := .waiting, fire := none }] ∧
      t.job.record = s.job.record ∧ t.start = s.start ∧ t.map = s.map ∧ t.travel = s.travel ∧ t.staging = s.staging ∧ t.arm = s.arm ∧
      t.plate = s.plate ∧ t.pins = s.pins ∧ t.pending = s.pending

/-- CLAIM and RELEASE of another station (R90, R92, R96), by the state of the entry: the first CLAIM of the entry's lap makes it THEIRS
and withdraws an own CLAIM that waits, while one that has begun runs on and keeps the flag; the claimant's RELEASE removes the entry
(RETURNED, LOST) or makes it FREE, to be decided again; another RELEASE is counted as foreign, and frames for cases not in the table
are nothing. That an entry whose own CLAIM is still on the line becomes FREE with its flag as it was, and is decided all the same, is the
model's choice (log 49). -/
def Obligations.OtherStationsTakeAndGiveUpCases : Prop :=
  ∀ (sender : Station) (c : CaseId) (lap reason : Byte) (s : State), s.bus.hears = true → sender ≠ 0 → sender ≠ 31 →
    let u := Safety.heardFrom s
    let begun := u.bus.withdrawAnswer (isClaimOf c) = .begun
    let claim := exec (.claim (.other sender) c lap) s
    let release := exec (.release (.other sender) c reason) s
    let changed := fun (f : Sighting → Sighting) =>
      ({ u with claim := { u.claim with sightings := u.claim.sightings.map (fun e => if e.caseId = c then f e else e) } } : State)
    (s.sighting c = none → claim = .next u.finish ∧ release = .next u.finish) ∧
    (∀ e, s.sighting c = some e →
      (e.lap ≠ min 15 lap.toNat → claim = .next u.finish) ∧
      (e.lap = min 15 lap.toNat → e.state = .free → claim = .next (changed (fun e => { e with state := .theirs sender })).finish) ∧
      (e.lap = min 15 lap.toNat → e.state = .claiming → claim = .next (({ changed (fun e =>
        { e with state := .theirs sender, queued := if begun then e.queued else false }) with
          bus := u.bus.withdraw (isClaimOf c) } : State).finish)) ∧
      ((∃ o, e.state = .theirs o) ∨ e.state = .ours ∨ e.state = .diverting → claim = .next u.finish) ∧
      (e.state = .theirs sender → reason = 1 ∨ reason = 4 →
        release = .next (({ u with claim := { u.claim with sightings := u.claim.sightings.filter (fun o => decide (o.caseId ≠ c)) } } :
          State).finish)) ∧
      (e.state = .theirs sender → reason ≠ 1 → reason ≠ 4 →
        release = .next (((changed (fun e => { e with state := .free })).decideClaim c).finish)) ∧
      (e.state ≠ .theirs sender →
        release = .next (({ u with claim := { u.claim with foreign := min 255 (u.claim.foreign + 1) } } : State).finish)))

/-- CASE_SIGHT (R80 to R84): a case held in staging is an ID CLASH; an entry of the same case is settled by its state; a product not
wanted, or a case already past, is not recorded; else the new entry, FREE and clamped, is placed in arrival order, where need be in the
place of the earliest THEIRS entry, and goes to the claim decision, which claims nothing unless the belt is LOCKED. -/
def Obligations.CaseSightIsRecordedInOrder : Prop :=
  ∀ (sender : Station) (c : CaseId) (p : ProductCode) (m l w h : BitVec 16) (lap : Byte) (age : BitVec 16) (s : State),
    s.bus.hears = true → sender ≠ 0 → sender ≠ 31 →
    let u := Safety.heardFrom s
    let run := exec (.caseSight sender c p m l w h lap age) s
    let figure := fun (lo hi : Nat) (x : BitVec 16) => if x = 0 then 0 else max lo (min hi x.toNat)
    let e : Sighting :=
      { caseId := c, product := p,
        gate := { mass := figure 1 65000 m, length := figure 50 800 l, width := figure 50 800 w, height := figure 20 600 h },
        lap := min 15 lap.toNat, arrival := u.travel.count - age.zeroExtend 32 + BitVec.ofNat 32 u.start.cfg.divertOffset,
        state := .free, queued := false, line := .absent }
    let without := fun (v : State) (id : CaseId) =>
      ({ v with claim := { v.claim with sightings := v.claim.sightings.filter (fun o => decide (o.caseId ≠ id)) } } : State)
    let settled : State :=
      match u.sighting c with
      | none => u
      | some old =>
        match old.state with
        | .claiming => without ({ u with bus := u.bus.withdraw (isClaimOf c) }) c
        | .ours => without ((({ u with divert := u.divert.filter (fun d => decide (d.caseId ≠ c)) } : State).decreaseClaimed old.line).raise
            .divertMissed) c
        | .diverting => without ((({ u with divert := u.divert.filter (fun d => decide (d.caseId ≠ c)) } : State).decreaseClaimed
            old.line).raise .divertMissed) c
        | _ => without u c
    let placed := fun (v : State) => ∃ before after, v.claim.sightings = before ++ after ∧
      (∀ x ∈ before, (x.arrival - v.travel.count).toInt ≤ (e.arrival - v.travel.count).toInt) ∧
      (∀ x, after.head? = some x → (e.arrival - v.travel.count).toInt < (x.arrival - v.travel.count).toInt) ∧
      run = .next ((({ v with claim := { v.claim with sightings := before ++ e :: after } } : State).decideClaim c).finish)
    (u.holdsCase c = true → run = .next (u.raise .idClash).finish) ∧
    (u.holdsCase c = false → p ∉ settled.claim.interest → run = .next settled.finish) ∧
    (u.holdsCase c = false → p ∈ settled.claim.interest → settled.passedBy e = true → run = .next settled.finish) ∧
    (u.holdsCase c = false → p ∈ settled.claim.interest → settled.passedBy e = false → settled.claim.sightings.length < 16 → placed settled) ∧
    (u.holdsCase c = false → p ∈ settled.claim.interest → settled.passedBy e = false → 16 ≤ settled.claim.sightings.length →
      (∀ x ∈ settled.claim.sightings, x.state.isTheirs = false) → run = .next (settled.raise .sightingDropped).finish) ∧
    (∀ x, u.holdsCase c = false → p ∈ settled.claim.interest → settled.passedBy e = false → 16 ≤ settled.claim.sightings.length →
      settled.claim.sightings.find? (fun x => x.state.isTheirs) = some x → placed (without settled x.caseId)) ∧
    (∀ v : State, v.travel.lock ≠ .locked → v.decideClaim c = v)

/-- R86 to R89, R101: a FREE entry is claimed exactly where every condition holds for the lowest-numbered line of its product that can
take a case, and then it is CLAIMING with its CLAIM in the queue at the urgency of R88; else the decision changes nothing. The
decision holds back only for a present, starving peer further round the loop that wants the product, while the part is not starving. -/
def Obligations.ClaimIsQueuedOnlyWhenAllHolds : Prop :=
  ∀ (s : State) (c : CaseId),
    let room := fun (l : LineRec) => l.ordered - l.placed - l.claimed
    let takes := fun (e : Sighting) (l : LineRec) => l.product = e.product ∧ l.status = .lineOpen ∧ 0 < room l
    let lowest := fun (e : Sighting) (n : Nat) => ∀ i l', i < n → s.lineAt i = some l' → ¬ takes e l'
    let urgency := fun (e : Sighting) (l : LineRec) =>
      (min 127 (64 - (if room l ≤ 2 then 32 else 0) - (if s.starving then 16 else 0) + (if 4 ≤ s.stagedCount then 16 else 0) -
        8 * ((min e.lap 4 : Nat) : Int))).toNat
    let holds := fun (e : Sighting) (l : LineRec) (n : Nat) (r : JobRecord) =>
      s.sighting c = some e ∧ e.state = .free ∧ s.start.state = .idle ∧ s.start.station ≠ none ∧ s.start.lockout = false ∧
      s.travel.lock = .locked ∧ s.job.record = some r ∧ r.phase = .active ∧ s.lineAt n = some l ∧ takes e l ∧ lowest e n ∧
      planFigure 20 600 e.gate.height l.height + s.lowestTop ≤ r.effHeight ∧
      s.map.standing.m + s.wonMass + plannedMass e.gate l ≤ r.effLoad ∧
      (s.start.cfg.claimMargin : Int) < (e.arrival - s.travel.count).toInt ∧
      s.staging.lane.length + (s.claim.sightings.filter (fun o => o.state.taken)).length < 6 ∧
      (∀ o ∈ s.claim.sightings, o.state.taken = true → s.start.cfg.minimumGap ≤ ((o.arrival - e.arrival).toInt).natAbs) ∧
      s.defers e.product = false ∧ s.bus.mode = .full ∧ s.bus.inGroup .claimGroup < 4
    let claimed := fun (e : Sighting) (l : LineRec) =>
      ({ s with
        bus := s.bus.place (.claim c (field8 e.lap)) (urgency e l)
        claim := { s.claim with
          sightings := s.claim.sightings.map (fun x => if x.caseId = c then { x with state := .claiming, queued := true } else x) } } :
        State)
    (∀ e l n r, holds e l n r → s.decideClaim c = claimed e l ∧ urgency e l ≤ 80) ∧
    (s.decideClaim c = s ∨ ∃ e l n r, holds e l n r ∧ s.decideClaim c = claimed e l) ∧
    (∀ p, s.defers p = true ↔ s.starving = false ∧ ∃ q ∈ s.claim.peers, q.heard = true ∧ q.age < 3 ∧ q.cellState = 6 ∧
      q.starving = true ∧ p ∈ q.wanted ∧ s.start.cfg.divertOffset < q.divertOffset)

/-- CELL_STATUS (R98, R174, R179): another station's fills its place of the peer table; one with the part's own number locks the part
out and raises DUPLICATE STATION, in JOINING and in IDLE, there with a queued ADOPT (R4) and its waiting own CLAIMs (R97) withdrawn; the
own one heard starts the holdoff at 100 ms. -/
def Obligations.CellStatusByOriginAndSender : Prop :=
  ∀ (sender : Station) (fs : StatusFields) (s : State),
    let u := Safety.heardFrom s
    let run := exec (.cellStatus (.other sender) fs) s
    (s.bus.hears = true → sender ≠ 0 → sender ≠ 31 →
      (u.start.station ≠ some sender →
        let peer : Peer :=
          { heard := true, cellState := min 8 fs.cellState.toNat, divertOffset := fs.offset10.toNat * 10,
            starving := fs.flags.getLsbD 0, wanted := fs.wanted.take 3, age := 0 }
        run = .next (({ u with claim := { u.claim with peers := u.claim.peers.set (sender.toNat - 1) peer } } : State).finish)) ∧
      (u.start.station = some sender → u.start.state = .joining →
        run = .next ((({ u with start := { u.start with lockout := true } } : State).raise .duplicateStation).finish)) ∧
      (u.start.station = some sender → u.start.state = .idle → u.start.lockout = true →
        run = .next (u.raise .duplicateStation).finish) ∧
      (u.start.station = some sender → u.start.state = .idle → u.start.lockout = false →
        ∃ t : State, run = .next t.finish ∧ t.start = { s.start with lockout := true } ∧
          t.events = (u.raise .duplicateStation).events ∧
          (∀ f ∈ t.bus.queue, isClaim f.payload = true → f.sending = true) ∧
          (let begun := fun (e : Sighting) =>
             ∃ f ∈ s.bus.queue, f.sending = true ∧ ∃ lap : Byte, lap.toNat = e.lap ∧ f.payload = .claim e.caseId lap
           t.claim.sightings.length = s.claim.sightings.length ∧
           ∀ (i : Nat) (e : Sighting), s.claim.sightings[i]? = some e →
             (begun e → t.claim.sightings[i]? = some e) ∧
             (¬ begun e → t.claim.sightings[i]? =
               some { e with state := if e.state = .claiming then .free else e.state, queued := false })) ∧
          (∀ o, s.job.offer = some o →
            let adopts := s.bus.queue.filter (fun f => isAdoptOf o.job f.payload)
            (o.bid = .sending → t.job.offer = some o) ∧
            (o.bid = .queued → (∀ f ∈ adopts, f.sending = false) →
              t.job.offer = none ∧ (adopts.length ≤ 1 → ∀ f ∈ t.bus.queue, isAdoptOf o.job f.payload = false)) ∧
            (o.bid = .queued → adopts ≠ [] → (∀ f ∈ adopts, f.sending = true) → t.job.offer = some { o with bid := .sending })) ∧
          t.job.record = s.job.record ∧ t.job.lines = s.job.lines ∧
          t.map = s.map ∧ t.travel = s.travel ∧ t.divert = s.divert ∧ t.staging = s.staging ∧ t.arm = s.arm ∧ t.plate = s.plate ∧
          t.pins = s.pins ∧ t.pending = s.pending)) ∧
    (∀ f, s.bus.sendingFrame = some f → f.payload = .status fs →
      let w := Safety.heardOwn s (.status fs)
      exec (.cellStatus .own fs) s = .next (({ w with events := { w.events with holdoff := some 100 } } : State).finish))

/-! ### The arm port -/

/-- READY (R136, R132, R142, R144, R145, R160) with the reset line released: in OFFLINE and READY with no command the port is READY and the
planner is told; a case in the gripper with no record is taken in for RETURN, and a record without a case is lost. In STOPPED the hold
ends, and a command that is RESOLVING goes on. In AWAIT ACCEPT and BUSY the command is UNKNOWN, ARM TIMEOUT is raised, and the rest is as
at a READY in STOPPED. An UNKNOWN command is settled. HOLDING: the case is in the gripper for RETURN, and a PLACE is undone. EMPTY: SET
ASIDE and RETURN are completed; a PLACE leaves staging and is RESOLVING while the plate is asked for evidence, its case lost at once where
the plate cannot answer or the map holds no placement of it. Three points are the model's: HOLDING writes the command's case over
another in the gripper record, a stray, which leaves without a notice (DESIGN CHOICE, log 42; EMPTY is stated where the record is empty or
holds the case itself); the evidence request stops the disturbance timings, disturbFrom and clearFrom (DEDUCED, log 28); and a command's
message that still waits to be sent stays in the ready list (DESIGN CHOICE, log 53). -/
def Obligations.ReadyOpensThePort : Prop :=
  ∀ s : State, s.start.held = false →
    let arm := fun (g : GripperState) => ({ s.arm with gripper := g, port := .ready } : ArmPort)
    let told := fun (g : GripperState) => ({ s with arm := arm g, planner := { s.planner with flag := true } } : State)
    let freed : Planner := { s.planner with flag := true, holds := { s.planner.holds with armStopped := false } }
    ((s.arm.port = .offline ∨ s.arm.port = .ready) → s.arm.cmd = none →
      (s.staging.gripper = none → exec (.ready .empty) s = .next (told .empty).finish) ∧
      (s.staging.gripper ≠ none → exec (.ready .holding) s = .next (told .holding).finish) ∧
      (s.staging.gripper = none → exec (.ready .holding) s = .next (({ told .holding with
        staging := { s.staging with
          gripper := some ⟨CaseRecord.stray s.staging.clock, none, 0, .ret⟩ } } : State).finish)) ∧
      (∀ g, s.staging.gripper = some g → g.awaiting = true → ∃ t : State, exec (.ready .empty) s = .next t.finish ∧
        t.staging = { s.staging with gripper := none } ∧ t.arm = arm .empty ∧ t.events = (s.raise .caseLost).events ∧
        t.start = s.start ∧ t.map = s.map ∧ t.travel = s.travel ∧ t.divert = s.divert ∧ t.plate = s.plate ∧ t.pins = s.pins ∧
        t.pending = s.pending)) ∧
    (s.arm.port = .stopped → s.arm.cmd = none → s.staging.gripper = none →
      exec (.ready .empty) s = .next (({ s with arm := arm .empty, planner := freed } : State).finish)) ∧
    (∀ cmd b r rest, s.arm.port = .stopped → s.arm.cmd = some cmd → cmd.progress = .unknown → cmd.action = .setAside b → 1 ≤ b →
      cmd.source = .lane → s.staging.lane = r :: rest → r.mark ≠ none → s.staging.gripper = none → s.claim.sightings = [] →
      exec (.ready .empty) s = .next (({ s with
        arm := { arm .empty with cmd := none }
        planner := freed
        staging := { s.staging with lane := rest, buffer := s.staging.buffer.set (b - 1) (some { r with mark := none }) } } :
          State).finish)) ∧
    (∀ g, s.arm.port = .stopped → s.arm.cmd = none → exec (.ready g) s = exec (.ready g) { s with
      arm := { s.arm with port := .ready }, planner := { s.planner with holds := { s.planner.holds with armStopped := false } } }) ∧
    (∀ g cmd, s.arm.port = .ready → s.arm.cmd = some cmd → exec (.ready g) s = .next (({ s with arm := arm g } : State).finish)) ∧
    (∀ g cmd, s.arm.port = .stopped → s.arm.cmd = some cmd → cmd.progress ≠ .unknown → s.planner.holds.armStopped = true →
      let h := { s.planner.holds with armStopped := false }
      exec (.ready g) s = .next (({ s with arm := arm g, planner := { s.planner with holds := h, flag := s.planner.flag || !h.any } } :
        State).finish)) ∧
    (∀ g cmd, s.arm.port = .awaitAccept ∨ s.arm.port = .busy → s.arm.cmd = some cmd → s.planner.holds.armStopped = false →
      exec (.ready g) s = exec (.ready g) (({ s with arm := { s.arm with
        port := .stopped, acceptTimer := none, doneTimer := none, cmd := some { cmd with progress := .unknown } } } : State).raise
          .armTimeout)) ∧
    (∀ cmd place r, s.arm.port = .stopped → s.arm.cmd = some cmd → cmd.progress = .unknown → s.commandPlace cmd.source = some place →
      s.caseAt place = some r →
      let gone := s.staging.without place
      let settles := fun (g : GripperState) (holds : State → Prop) => ∃ t : State, exec (.ready g) s = .next t.finish ∧ holds t ∧
        t.planner.holds = { s.planner.holds with armStopped := false } ∧ t.start = s.start ∧ t.travel = s.travel ∧
        t.divert = s.divert ∧ t.pins = s.pins ∧ t.pending = s.pending
      let ended := fun (g : GripperState) (t : State) => t.arm = { arm g with cmd := none } ∧ t.planner.flag = true
      let released := fun (t : State) (c : Option CaseId) (reason : Byte) => ∀ id, c = some id → s.bus.mode = .full →
        s.claim.backlog = [] → s.bus.inGroup .reportGroup < 7 → ∃ f ∈ t.bus.queue, f.payload = .release id reason
      let uncounted := fun (t : State) (line : LineRef) => ∀ n l, line = .counted n → s.lineAt n = some l →
        t.lineAt n = some { l with claimed := l.claimed - 1 }
      settles .holding (fun t => ended .holding t ∧ t.job = s.job ∧ t.events = s.events ∧
        t.staging = { gone with
          gripper := some { held := { r with mark := none }, command := none, target := 0, disposition := .ret } } ∧
        (cmd.action.command ≠ .place → t.map = s.map ∧ t.plate = s.plate) ∧
        (∀ tgt id, cmd.action = .place tgt → cmd.caseId = some id →
          (∀ q, s.map.prov = some q → q.caseId = id → t.map = s.map.rolledBack s.codeInUse q) ∧
          (∀ w, s.plate.watch = some w → w.caseId = id → t.plate.watch = none ∧ t.plate.verifyLeft = none ∧ t.plate.history = []))) ∧
      (s.staging.gripper = none ∨ place = .gripper →
        (∀ b, cmd.action = .setAside b → settles .empty (fun t => ended .empty t ∧
          t.staging = gone.setBuffer b (some { r with mark := none }) ∧ t.job = s.job ∧ t.map = s.map ∧ t.plate = s.plate ∧
          t.events = s.events)) ∧
        (cmd.action = .ret → settles .empty (fun t => ended .empty t ∧ t.staging = gone ∧ released t r.caseId 1 ∧ uncounted t r.line ∧
          t.map = s.map ∧ t.plate = s.plate ∧ t.events = s.events)) ∧
        (∀ tgt id, cmd.action = .place tgt → cmd.caseId = some id →
          let mine := fun (w : Watch) => s.plate.watch = some w ∧ w.caseId = id
          let lost := fun (mp : StackMap) => settles .empty (fun t => ended .empty t ∧ t.map = mp ∧
            ((s.stagedRecords.filter (fun x => x.mark.isSome)).length = 1 → t.staging = gone) ∧
            (∀ w, mine w → t.plate.watch = none ∧ t.plate.verifyLeft = none) ∧ released t (some id) 4 ∧ uncounted t cmd.line ∧
            t.events = (s.raise .caseLost).events)
          ((∀ q, s.map.prov = some q → q.caseId ≠ id) → lost s.map) ∧
          (∀ q, s.map.prov = some q → q.caseId = id →
            (s.plate.state ≠ .tared ∨ (∃ w, mine w ∧ w.orphaned = true) → lost (s.map.rolledBack s.codeInUse q)) ∧
            (s.plate.state = .tared → (∀ w, mine w → w.orphaned = false) → settles .empty (fun t =>
              t.arm = { arm .empty with cmd := some { cmd with progress := .resolving } } ∧ t.staging = gone ∧ t.map = s.map ∧
              t.job = s.job ∧ t.events = s.events ∧ ∃ r0 : Int,
                t.plate = { s.plate with evidence := some { caseId := id, m := q.m, r0 := r0, askedAt := s.plate.clock },
                                         evidenceLeft := some 2000, restart := true, disturbFrom := none, clearFrom := none } ∧
                (∀ w, mine w → r0 = w.open0) ∧ ((∀ w, ¬ mine w) → r0 = s.map.mTot)))))))

/-- ACCEPT (R138, R128, R156): in AWAIT ACCEPT with the command's tag the done timer starts, the port is BUSY and the case, which bears its
command's mark, moves from its source to the gripper record; a PLACE opens the watch on its case. Where the source does not hold the
command's case, staging ignores the ACCEPT. Any other ACCEPT is only counted as unexpected. That a stray in the gripper record is
overwritten (log 42) and that a case from a buffer position sets the planner's flag (log 43) are the model's choice. -/
def Obligations.AcceptMovesTheCaseToTheGripper : Prop :=
  ∀ (tag : Byte) (s : State), s.start.held = false →
    (∀ cmd, s.arm.port = .awaitAccept → s.arm.cmd = some cmd → cmd.tag = tag → ∃ t : State, exec (.accept tag) s = .next t.finish ∧
      t.arm = { s.arm with acceptTimer := none, doneTimer := some (s.start.cfg.doneTimeout * 1000), port := .busy,
                           cmd := some { cmd with progress := .accepted } } ∧
      (let taken := fun (r : CaseRecord) =>
        some ({ held := r, command := some cmd.action.command, target := cmd.action.position, disposition := .none } : Gripper)
       (∀ r rest, cmd.source = .lane → s.staging.lane = r :: rest → r.mark ≠ none →
          t.staging = { s.staging with lane := rest, gripper := taken r } ∧ t.planner.flag = true) ∧
       (∀ b r, cmd.source = .buffer b → 1 ≤ b → s.staging.buffer.getD (b - 1) none = some r → r.mark ≠ none →
          t.staging = { s.staging with buffer := s.staging.buffer.set (b - 1) none, gripper := taken r } ∧ t.planner.flag = true) ∧
       (∀ g, cmd.source = .gripper → s.staging.gripper = some g → g.held.mark ≠ none →
          t.staging = { s.staging with gripper := taken g.held } ∧ t.planner = s.planner) ∧
       ((∀ r, s.caseAt cmd.source = some r → r.mark = none) → t.staging = s.staging ∧ t.planner = s.planner ∧ t.bus = s.bus)) ∧
      (∀ tgt id, cmd.action = .place tgt → cmd.caseId = some id →
        let w : Watch :=
          { caseId := id, line := cmd.line, m := tgt.figures.m, open0 := s.plate.lastSettled, phase := .opened,
            orphaned := decide (s.plate.state ≠ .tared), doneAt := none }
        t.plate = { s.plate with watch := some w, history := [], disturbFrom := none, clearFrom := none,
                                 quietLeft := some s.start.cfg.quietTime, quietRef := s.plate.load }) ∧
      (cmd.action.command ≠ .place → t.plate = s.plate) ∧
      t.start = s.start ∧ t.job = s.job ∧ t.map = s.map ∧ t.travel = s.travel ∧ t.divert = s.divert ∧ t.events = s.events ∧
      t.pins = s.pins ∧ t.pending = s.pending) ∧
    (s.arm.port ≠ .awaitAccept ∨ (∀ cmd, s.arm.cmd = some cmd → cmd.tag ≠ tag) →
      exec (.accept tag) s = .next { s with arm := { s.arm with unexpected := min 255 (s.arm.unexpected + 1) } })

/-- DONE (R139, R129, R130, R157): in BUSY with the command's tag, the case being in the gripper record, the port is READY, the record is
gone, and the case ends by the command: into its buffer position, under the settling watch (one that is orphaned gives NOT
LANDED at once, R159), or returned, with its RELEASE and its line's claimed count. Any other DONE is only counted as unexpected. -/
def Obligations.DoneCompletesTheCommand : Prop :=
  ∀ (tag : Byte) (s : State), s.start.held = false →
    let arm : ArmPort := { s.arm with doneTimer := none, cmd := none, port := .ready }
    let planner : Planner := { s.planner with flag := true }
    (∀ cmd g, s.arm.port = .busy → s.arm.cmd = some cmd → cmd.tag = tag → s.commandPlace cmd.source = some .gripper →
      s.staging.gripper = some g →
      (∀ b, cmd.action = .setAside b → 1 ≤ b → exec (.doneReport tag) s = .next (({ s with
        arm := arm, planner := planner
        staging := { s.staging with gripper := none, buffer := s.staging.buffer.set (b - 1) (some { g.held with mark := none }) } } :
          State).finish)) ∧
      (∀ tgt id w, cmd.action = .place tgt → cmd.caseId = some id → s.plate.watch = some w → w.caseId = id → w.orphaned = false →
        exec (.doneReport tag) s = .next (({ s with
          arm := arm, planner := planner, staging := { s.staging with gripper := none }
          plate := { s.plate with watch := some { w with phase := .settling, doneAt := some s.plate.clock }, verifyLeft := some 2000,
                                  restart := true } } : State).finish)) ∧
      (∀ tgt id w, cmd.action = .place tgt → cmd.caseId = some id → s.plate.watch = some w → w.caseId = id → w.orphaned = true →
        ∃ t : State, exec (.doneReport tag) s = .next t.finish ∧ t.arm = arm ∧ t.staging = { s.staging with gripper := none } ∧
          t.planner.flag = true ∧ t.plate.watch = none ∧ t.plate.verifyLeft = none ∧
          t.events = ((s.raise .notLanded).raise .caseLost).events ∧
          ((∀ q, s.map.prov = some q → q.caseId ≠ id) → t.map = s.map) ∧
          (s.bus.mode = .full → s.claim.backlog = [] → s.bus.inGroup .reportGroup < 7 → ∃ f ∈ t.bus.queue, f.payload = .release id 4) ∧
          (∀ n l, w.line = .counted n → s.lineAt n = some l → t.lineAt n = some { l with claimed := l.claimed - 1 }) ∧
          t.start = s.start ∧ t.travel = s.travel ∧ t.divert = s.divert ∧ t.pins = s.pins ∧ t.pending = s.pending) ∧
      (cmd.action = .ret → ∃ t : State, exec (.doneReport tag) s = .next t.finish ∧
        t.arm = arm ∧ t.staging = { s.staging with gripper := none } ∧ t.planner.flag = true ∧
        (∀ id, g.held.caseId = some id → s.bus.mode = .full → s.claim.backlog = [] → s.bus.inGroup .reportGroup < 7 →
          ∃ f ∈ t.bus.queue, f.payload = .release id 1) ∧
        (∀ n l, g.held.line = .counted n → s.lineAt n = some l → t.lineAt n = some { l with claimed := l.claimed - 1 }) ∧
        t.start = s.start ∧ t.map = s.map ∧ t.travel = s.travel ∧ t.divert = s.divert ∧ t.plate = s.plate ∧ t.events = s.events ∧
        t.pins = s.pins ∧ t.pending = s.pending)) ∧
    (s.arm.port ≠ .busy ∨ (∀ cmd, s.arm.cmd = some cmd → cmd.tag ≠ tag) →
      exec (.doneReport tag) s = .next { s with arm := { s.arm with unexpected := min 255 (s.arm.unexpected + 1) } })

/-- FAULT (R141 to R143): ignored and counted in OFFLINE and with another tag in AWAIT ACCEPT and BUSY; else the number is recorded and
ARM FAULT raised. In STOPPED nothing more follows; from every other port state the port stops with ARM STOPPED. In READY a RESOLVING
command goes on, and LOST takes a gripper case that awaits disposition. In AWAIT ACCEPT and BUSY, HELD leaves the case in the gripper for
a new plan, LOST takes it out of staging as CASE LOST, and both undo a PLACE. AT TARGET leaves the command UNKNOWN in AWAIT ACCEPT and
completes it as a DONE does in BUSY. Two points are the model's choice: HELD, taken as an ACCEPT where the case is still at its source,
writes the case over another in the gripper record, a stray, which leaves without a notice (log 42); and a command's message that still
waits to be sent stays in the ready list (log 53). -/
def Obligations.FaultStopsThePort : Prop :=
  ∀ (tag : Byte) (d : FaultDisposition) (n : BitVec 16) (s : State), s.start.held = false →
    let run := exec (.faultReport tag d n) s
    let f := ({ s with arm := { s.arm with lastFault := n } } : State).raise .armFault
    let stopped : ArmPort := { s.arm with lastFault := n, port := .stopped, acceptTimer := none, doneTimer := none }
    let count := Host.Outcome.next (φ := Fault) (ρ := Refusal) { s with arm := { s.arm with unexpected := min 255 (s.arm.unexpected + 1) } }
    let stops := fun (cmd : Option Outstanding) (holds : State → Prop) => ∃ t : State, run = .next t.finish ∧ holds t ∧
      t.arm = { stopped with cmd := cmd } ∧ t.planner.holds = { s.planner.holds with armStopped := true } ∧ t.planner.result = none ∧
      t.start = s.start ∧ t.travel = s.travel ∧ t.divert = s.divert ∧ t.pins = s.pins ∧ t.pending = s.pending
    let standing := fun (t : State) => t.staging = s.staging ∧ t.map = s.map ∧ t.job = s.job ∧ t.plate = s.plate ∧ t.events = f.events
    let released := fun (t : State) (c : Option CaseId) (reason : Byte) => ∀ id, c = some id → s.bus.mode = .full →
      s.claim.backlog = [] → s.bus.inGroup .reportGroup < 7 → ∃ g ∈ t.bus.queue, g.payload = .release id reason
    let uncounted := fun (t : State) (line : LineRef) => ∀ k l, line = .counted k → s.lineAt k = some l →
      t.lineAt k = some { l with claimed := l.claimed - 1 }
    (s.arm.port = .offline → run = count) ∧
    (∀ cmd, s.arm.port = .awaitAccept ∨ s.arm.port = .busy → s.arm.cmd = some cmd → cmd.tag ≠ tag → run = count) ∧
    (s.arm.port = .stopped → run = .next f.finish) ∧
    (s.planner.holds.armStopped = false →
      (∀ cmd, s.arm.port = .ready → s.arm.cmd = some cmd → stops (some cmd) standing) ∧
      (s.arm.port = .ready → s.arm.cmd = none → d ≠ .lost ∨ (∀ g, s.staging.gripper = some g → g.awaiting = false) →
        stops none standing) ∧
      (∀ g, s.arm.port = .ready → s.arm.cmd = none → d = .lost → s.staging.gripper = some g → g.awaiting = true →
        stops none (fun t => t.staging = { s.staging with gripper := none } ∧ released t g.held.caseId 4 ∧ uncounted t g.held.line ∧
          t.events = (f.raise .caseLost).events ∧ t.map = s.map ∧ t.plate = s.plate)) ∧
      (∀ cmd, s.arm.port = .awaitAccept → s.arm.cmd = some cmd → cmd.tag = tag → d = .atTarget →
        stops (some { cmd with progress := .unknown }) standing) ∧
      (∀ cmd place r, s.arm.port = .busy ∨ (s.arm.port = .awaitAccept ∧ (s.stagedRecords.filter (fun x => x.mark.isSome)).length = 1) →
        s.arm.cmd = some cmd → cmd.tag = tag → s.commandPlace cmd.source = some place → s.caseAt place = some r →
        let gone := s.staging.without place
        let undone := fun (t : State) => (cmd.action.command ≠ .place → t.map = s.map ∧ t.plate = s.plate) ∧
          (s.plate.watch = none → t.plate = s.plate) ∧
          (∀ tgt id, cmd.action = .place tgt → cmd.caseId = some id →
            (∀ q, s.map.prov = some q → q.caseId = id → t.map = s.map.rolledBack s.codeInUse q) ∧
            (∀ w, s.plate.watch = some w → w.caseId = id → t.plate.watch = none ∧ t.plate.verifyLeft = none ∧ t.plate.history = []))
        (d = .held → stops none (fun t => undone t ∧ t.job = s.job ∧ t.events = f.events ∧
          t.staging = { gone with
            gripper := some { held := { r with mark := none }, command := none, target := 0, disposition := .rePlan } })) ∧
        (d = .lost → stops none (fun t => undone t ∧ t.staging = gone ∧ t.events = (f.raise .caseLost).events ∧
          released t cmd.caseId 4 ∧ uncounted t cmd.line))) ∧
      (∀ cmd place r, s.arm.port = .busy → s.arm.cmd = some cmd → cmd.tag = tag → d = .atTarget →
        s.commandPlace cmd.source = some place → s.caseAt place = some r →
        let gone := s.staging.without place
        (∀ b, cmd.action = .setAside b → stops none (fun t => t.staging = gone.setBuffer b (some { r with mark := none }) ∧
          t.job = s.job ∧ t.map = s.map ∧ t.plate = s.plate ∧ t.events = f.events)) ∧
        (cmd.action = .ret → stops none (fun t => t.staging = gone ∧ released t r.caseId 1 ∧ uncounted t r.line ∧ t.map = s.map ∧
          t.plate = s.plate ∧ t.events = f.events)) ∧
        (∀ tgt id w, cmd.action = .place tgt → cmd.caseId = some id → s.plate.watch = some w → w.caseId = id →
          (w.orphaned = false → stops none (fun t => t.staging = gone ∧ t.map = s.map ∧ t.job = s.job ∧ t.events = f.events ∧
            t.plate = { s.plate with watch := some { w with phase := .settling, doneAt := some s.plate.clock }, verifyLeft := some 2000,
                                     restart := true })) ∧
          (w.orphaned = true → stops none (fun t => t.staging = gone ∧ t.plate.watch = none ∧ t.plate.verifyLeft = none ∧
            released t (some id) 4 ∧ uncounted t w.line ∧ t.events = ((f.raise .notLanded).raise .caseLost).events)))))

/-- R146: HOLD and CLEAR HOLD are taken in every port state and change neither the port nor its command. HOLD adds OPERATOR, and a result
that waits is discarded; CLEAR HOLD removes OPERATOR and SLIP. -/
def Obligations.HoldAndClearHold : Prop :=
  ∀ s : State, s.start.held = false →
    let h := s.planner.holds
    exec .hold s = .next (({ s with planner := { s.planner with
      holds := { h with operator := true }
      result := if h.operator then s.planner.result else none
      flag := s.planner.flag || (!h.operator && s.planner.result.isSome) } } : State).finish) ∧
    exec .clearHold s = .next (({ s with planner := { s.planner with
      holds := { h with operator := false, slip := false }
      flag := s.planner.flag || ((h.operator || h.slip) && !h.disturbed && !h.overload && !h.armStopped) } } : State).finish)

/-- STATUS_REQUEST, MAP_ROW_REQUEST, MALFORMED_MESSAGE and the ends of sending (R134, R137, R147, R148, R169): one message is on the line at
a time; a report is composed when its sending begins, one of each kind waits at most, a malformed message is only counted, and the end
of a STATUS REPORT clears every latched flag. What the reports carry, most significant byte first: the fields of R147 in their order, the
cell state coded as StatusTimersQueueTheStatus says; and for a row its header, with a cell entry for each column of the grid in use, none
for a row not in it (R36). -/
def Obligations.MessagesGoOutOneAtATime : Prop :=
  (∀ s : State,
    let one := fun (n : Nat) => ([BitVec.ofNat 8 (min n 255)] : List Byte)
    let two := fun (n : Nat) => ([BitVec.ofNat 8 (min n 65535 / 256), BitVec.ofNat 8 (min n 65535)] : List Byte)
    let job := s.job.record
    let h := s.planner.holds
    let bit := fun (b : Bool) (v : Nat) => if b then v else 0
    let latched := s.events.latched.toNat
    s.reportBody =
      one s.cellState ++ two (job.elim 0 (fun r => r.job.toNat)) ++
      one (match s.phase with
        | none => 0
        | some .collecting => 1
        | some .active => 2
        | some .closing => 3
        | some .ended => 4) ++
      one (match job.bind (fun r => r.outcome) with
        | none => 0
        | some .complete => 1
        | some .short => 2
        | some .cancelled => 3
        | some .aborted => 4) ++
      two s.map.seq ++ one (bit h.operator 1 + bit h.slip 2 + bit h.disturbed 4 + bit h.overload 8 + bit h.armStopped 16) ++
      one (match s.travel.lock with
        | .unlocked => 0
        | .locked => 1
        | .stopped => 2) ++
      one (s.staging.lane.length + (s.staging.buffer.filter (fun b => b.isSome)).length + bit s.staging.gripper.isSome 1) ++
      two (s.map.mTot / 1000) ++ [BitVec.ofNat 8 (latched / 65536), BitVec.ofNat 8 (latched / 256), BitVec.ofNat 8 latched] ++
      s.events.counters.flatMap one ++ one (bit s.bus.muted 1) ++ one s.job.ignored ++ one s.bus.refused ++ one s.claim.foreign ++
      one s.staging.overflow ++ one s.arm.malformed ++ one s.arm.unexpected ++ two s.arm.lastFault.toNat ∧
    (∀ row : Byte,
      let code := job.elim s.start.cfg.footprint (fun r => r.footprint)
      let rows : Nat := if code = 0 then 20 else if code = 1 then 16 else 12
      let cols : Nat := if code = 2 then 16 else 24
      let header := fun (n : Nat) => [row] ++ one code ++ one n ++ two s.map.seq ++ two s.map.count ++ one (bit s.map.prov.isSome 1)
      code ≤ 2 → s.map.cells.length = 480 →
        (rows ≤ row.toNat → s.mapRowBody row = header 0) ∧
        (row.toNat < rows → s.mapRowBody row = header cols ++ (List.range cols).flatMap (fun c =>
          let x := s.map.cellAt (row.toNat * cols + c)
          two x.top ++ one x.rank ++ two x.reserve ++ one (bit x.mark 1))))) ∧
  ∀ s : State, s.start.held = false →
    let unexpected : State := { s with arm := { s.arm with unexpected := min 255 (s.arm.unexpected + 1) } }
    (.statusReport ∈ s.arm.ready → exec .statusRequest s = .next s) ∧
    (s.arm.ready = [] → s.arm.onLine = none →
      exec .statusRequest s = .next { s with arm := { s.arm with onLine := some (.statusReport, armFrame 0x20 s.reportBody) } }) ∧
    (∀ m, s.arm.ready = [] → s.arm.onLine = some m →
      exec .statusRequest s = .next { s with arm := { s.arm with ready := [.statusReport] } }) ∧
    (∀ row row', .mapRow row' ∈ s.arm.ready → exec (.mapRowRequest row) s = .next unexpected) ∧
    (∀ row, s.arm.ready = [] → s.arm.mapRowHeld = none → s.arm.onLine = none →
      exec (.mapRowRequest row) s = .next { s with arm := { s.arm with onLine := some (.mapRow row, armFrame 0x21 (s.mapRowBody row)) } }) ∧
    (∀ row row' bs, s.arm.ready = [] → s.arm.mapRowHeld = none → s.arm.onLine = some (.mapRow row', bs) →
      exec (.mapRowRequest row) s = .next { s with arm := { s.arm with mapRowHeld := some row } }) ∧
    (∀ code length body check, (Instr.malformedMessage code length body check).wellFormed = true →
      exec (.malformedMessage code length body check) s =
        .next { s with arm := { s.arm with malformed := min 255 (s.arm.malformed + 1) } }) ∧
    (∀ tag bytes bs cmd, s.arm.onLine = some (.command tag bytes, bs) → s.arm.ready = [] → s.arm.cmd = some cmd → cmd.tag = tag →
      s.arm.port = .awaitAccept →
      exec .commandSent s = .next { s with arm := { s.arm with acceptTimer := some 500, onLine := none } }) ∧
    (∀ bs, s.arm.onLine = some (.statusReport, bs) → s.arm.ready = [] →
      exec .statusReportSent s = .next { s with events := { s.events with latched := 0 }, arm := { s.arm with onLine := none } }) ∧
    (∀ row bs, s.arm.onLine = some (.mapRow row, bs) → s.arm.ready = [] → s.arm.mapRowHeld = none →
      exec .mapRowReportSent s = .next { s with arm := { s.arm with onLine := none } }) ∧
    (∀ row next bs, s.arm.onLine = some (.mapRow row, bs) → s.arm.ready = [] → s.arm.mapRowHeld = some next →
      exec .mapRowReportSent s = .next { s with arm := { s.arm with mapRowHeld := none,
                                                                    onLine := some (.mapRow next, armFrame 0x21 (s.mapRowBody next)) } })

/-- ACCEPT_TIMEOUT and DONE_TIMEOUT (R140) at the timer's end: the command is UNKNOWN, the port is STOPPED with ARM STOPPED added, ARM
TIMEOUT is raised, and the placement, the case and the watch stay as they are. -/
def Obligations.ArmTimersLeaveTheCommandUnknown : Prop :=
  ∀ (s : State) (cmd : Outstanding) (c : Instr), s.arm.cmd = some cmd → s.planner.holds.armStopped = false →
    (c = .acceptTimeout ∧ s.arm.port = .awaitAccept ∧ s.arm.acceptTimer = some 0 ∨
      c = .doneTimeout ∧ s.arm.port = .busy ∧ s.arm.doneTimer = some 0) →
    ∃ t : State, exec c s = .next t.finish ∧
      t.arm = { s.arm with port := .stopped, acceptTimer := none, doneTimer := none, cmd := some { cmd with progress := .unknown } } ∧
      t.planner.holds = { s.planner.holds with armStopped := true } ∧ t.planner.result = none ∧ t.events = (s.raise .armTimeout).events ∧
      t.start = s.start ∧ t.claim = s.claim ∧ t.job = s.job ∧ t.map = s.map ∧ t.travel = s.travel ∧ t.divert = s.divert ∧
      t.staging = s.staging ∧ t.plate = s.plate ∧ t.pins = s.pins ∧ t.pending = s.pending

/-! ### The load plate -/

/-- PLATE_SAMPLE (R150, R151, R154) outside TARING, at the sample's time: the filters move towards the raw counts by the shift of the mode
in force, the masses and the load follow from them, and the baselines follow slow drift in ABSENT alone. The tests follow on the new
figures: the measured centre with at least 20 kg on the plate (R161) and its slip history (R164); the disturbance test (R163), which starts
and stops the timing and the clearing timing, sets and ends the condition, and stands aside outside TARED, under a watch that is not
orphaned and under an evidence request; the overload test (R165), with its entry, and its clearing timing started, stopped and elapsed; the
quiet timer (R166), the settle tracker (R152) and the mode for the next sample (R166). That centres older than the slip window, and the oldest past 17, are
dropped before the new one is compared or appended is DEDUCED (log 38); the order of the tests is the model's choice (log 26), and
that the next sample is due after the period of the mode in force is DEDUCED (log 27). -/
def Obligations.SampleFiltersAndWeighs : Prop :=
  ∀ (scan : List RawCount) (s : State), s.plate.sampleLeft = some 0 → s.plate.state ≠ .taring → s.plate.f.length = 9 → s.plate.b.length = 9 →
    let k : Nat := match s.plate.mode with
      | .active => 1
      | .watch => 2
      | .rest => 3
    ∃ t : State, exec (.plateSample scan) s = .next t ∧ t.plate.f.length = 9 ∧ t.plate.b.length = 9 ∧
      (∀ i, i < 9 → t.plate.f.getD i 0 = s.plate.f.getD i 0 + ((scan.getD i 0).toInt - s.plate.f.getD i 0).tdiv (2 ^ k : Nat)) ∧
      (∀ i, i < 8 → t.plate.masses.getD i 0 =
        (((t.plate.f.getD i 0 - s.plate.b.getD i 0) -
          ((t.plate.f.getD 8 0 - s.plate.b.getD 8 0) * s.start.cfg.weights.getD i 128).tdiv 128) * s.start.cfg.gain).tdiv 1024) ∧
      t.plate.load = t.plate.masses.sum ∧
      (∀ i, i < 9 → t.plate.b.getD i 0 =
        if s.plate.state = .absent ∧ (((t.plate.f.getD i 0 - s.plate.b.getD i 0) * s.start.cfg.gain).tdiv 1024).natAbs ≤ 50 then
          s.plate.b.getD i 0 + (t.plate.f.getD i 0 - s.plate.b.getD i 0).tdiv 64
        else s.plate.b.getD i 0) ∧
      t.plate.sampleLeft = some (match s.plate.mode with
        | .active => 10
        | .watch => 40
        | .rest => 400) ∧
      (let half := fun (mm : Nat) => ((mm / 2 : Nat) : Int)
       let m := fun (i : Nat) => t.plate.masses.getD i 0
       let x := (half (palletLength s.codeInUse) * (m 1 + m 2 + m 5 - m 0 - m 3 - m 7)).tdiv t.plate.load
       let y := (half (palletWidth s.codeInUse) * (m 2 + m 3 + m 6 - m 0 - m 1 - m 4)).tdiv t.plate.load
       let recent := s.plate.history.filter (fun c => decide (s.plate.clock - c.time ≤ s.start.cfg.slipWindow))
       let slips := ∃ c ∈ recent, (s.start.cfg.slipDistance : Int) < (x - c.x).natAbs ∨ (s.start.cfg.slipDistance : Int) < (y - c.y).natAbs
       (t.plate.load < 20000 → t.plate.xm = s.plate.xm ∧ t.plate.ym = s.plate.ym) ∧
       (20000 ≤ t.plate.load → t.plate.xm = x ∧ t.plate.ym = y) ∧
       (20000 ≤ t.plate.load → s.plate.state = .tared → s.plate.watch = none → s.plate.evidence = none →
         (slips → t.plate.history = [] ∧ t.planner.holds.slip = true ∧ Safety.RaisedOnce .slip s t) ∧
         (¬ slips → Safety.NotRaised .slip s t ∧ t.plate.history = lastN 17 (recent ++ [{ time := s.plate.clock, x := x, y := y }])))) ∧
      (let lasted := fun (since : Nat) => s.start.cfg.settleTime ≤ s.plate.clock - since
       let inWindow := (∀ w since, s.plate.watch = some w → w.doneAt = some since → s.plate.clock ≤ since + 2000) ∧
         ∀ ev, s.plate.evidence = some ev → s.plate.clock ≤ ev.askedAt + 2000
       let watched := (∃ w, s.plate.watch = some w ∧ w.orphaned = false) ∨ s.plate.evidence ≠ none
       let outside := s.start.cfg.disturbBand < (t.plate.load - s.map.mTot).natAbs
       let disturb := fun (disturbed : Bool) (from_ clear : Option Nat) =>
         t.plate.disturbed = disturbed ∧ t.plate.disturbFrom = from_ ∧ t.plate.clearFrom = clear
       let asBefore := disturb s.plate.disturbed s.plate.disturbFrom s.plate.clearFrom ∧
         t.planner.holds.disturbed = s.planner.holds.disturbed ∧ Safety.NotRaised .plateDisturbed s t
       (s.plate.state ≠ .tared → asBefore) ∧ (watched → inWindow → asBefore) ∧
       (s.plate.state = .tared → ¬ watched → (∀ w, s.plate.watch = some w → w.doneAt = none) →
         (s.plate.disturbed = false →
           (¬ outside → disturb false none s.plate.clearFrom) ∧
           (outside → s.plate.disturbFrom = none → disturb false (some s.plate.clock) s.plate.clearFrom) ∧
           (∀ since, outside → s.plate.disturbFrom = some since →
             (¬ lasted since → disturb false (some since) s.plate.clearFrom) ∧
             (lasted since → disturb true none none ∧ t.planner.holds.disturbed = true ∧ Safety.RaisedOnce .plateDisturbed s t)) ∧
           (t.plate.disturbed = false → Safety.NotRaised .plateDisturbed s t)) ∧
         (s.plate.disturbed = true →
           Safety.NotRaised .plateDisturbed s t ∧
           (outside → disturb true s.plate.disturbFrom none) ∧
           (¬ outside → s.plate.clearFrom = none → disturb true s.plate.disturbFrom (some s.plate.clock)) ∧
           (∀ since, ¬ outside → s.plate.clearFrom = some since →
             (¬ lasted since → disturb true s.plate.disturbFrom (some since)) ∧
             (lasted since → disturb false none none ∧ t.planner.holds.disturbed = false)))) ∧
       (let beyond := ∃ m ∈ t.plate.masses, ((s.start.cfg.channelLimitKg * 1000 : Nat) : Int) < m
        let overload := fun (is : Bool) (clear : Option Nat) => t.plate.overload = is ∧ t.plate.overClearFrom = clear
        (s.plate.overload = false →
          (beyond → overload true none ∧ t.planner.holds.overload = true ∧ Safety.RaisedOnce .overload s t) ∧
          (¬ beyond → overload false s.plate.overClearFrom ∧ Safety.NotRaised .overload s t)) ∧
        (s.plate.overload = true →
          Safety.NotRaised .overload s t ∧
          (beyond → overload true none) ∧
          (¬ beyond → s.plate.overClearFrom = none → overload true (some s.plate.clock)) ∧
          (∀ since, ¬ beyond → s.plate.overClearFrom = some since →
            (¬ lasted since → overload true (some since)) ∧
            (lasted since → overload false none ∧ t.planner.holds.overload = false)))) ∧
       (s.plate.watch = none → s.plate.evidence = none →
         let left := (s.start.cfg.settleBand : Int) < (t.plate.load - s.plate.quietRef).natAbs
         (left → t.plate.quietLeft = some s.start.cfg.quietTime ∧ t.plate.quietRef = t.plate.load) ∧
         (¬ left → t.plate.quietLeft = s.plate.quietLeft ∧ t.plate.quietRef = s.plate.quietRef))) ∧
      (let out := (s.start.cfg.settleBand : Int) < (t.plate.load - s.plate.ref).natAbs
       let settled := s.plate.restart = false ∧ ¬ out ∧ s.start.cfg.settleTime ≤ s.plate.clock - s.plate.runStart
       t.plate.ref = (if s.plate.restart = true ∨ out then t.plate.load else s.plate.ref) ∧
       t.plate.runStart = (if s.plate.restart = true ∨ out then s.plate.clock else s.plate.runStart) ∧
       t.plate.restart = decide settled ∧ t.plate.lastSettled = if settled then t.plate.load else s.plate.lastSettled) ∧
      (let follows := (∃ left, t.plate.quietLeft = some left ∧ 0 < left) ∨ (∃ w, t.plate.watch = some w ∧ w.orphaned = false) ∨
         t.plate.evidence ≠ none ∨ t.plate.disturbFrom ≠ none ∨ t.plate.clearFrom ≠ none ∨ t.plate.overClearFrom ≠ none
       (follows → t.plate.mode = .active) ∧
       (¬ follows → s.job.record = none → t.plate.mode = if s.plate.state = .tared then .watch else .rest)) ∧
      t.pins = { s.pins with bridge := scan } ∧ t.start = s.start ∧ t.travel = s.travel ∧ t.pending = s.pending

/-- PLATE_SETTLED (R150, R152, R155, R157, R158), which is the sample in hand (log 3), where the settle time of the run has elapsed with
its load within the band: in TARING the tare is taken; under a settling watch, within its window, the gain since the watch opened gives
the verdict. A commit with the planned or the measured mass counts the case placed on its line (R12), restarts the stall timer, and
closes the job where every line is then DONE, or DONE or UNPLACEABLE (R13); NOT LANDED rolls back, releases the case LOST and gives up
its line's claim. A commit with the measured mass raises MASS MISMATCH, NOT LANDED raises NOT LANDED and CASE LOST (R158), and after a
commit the measured centre is compared with the committed one, with at least 20 kg on the plate: a difference in x or in y greater than
the tolerance raises OFF CENTRE (R162). With an evidence request running, within its window, the gain decides the answer (R160, R145): GAINED commits with the
planned mass, NOT GAINED loses the case as NOT LANDED does, and both end the outstanding command. That a settled load at the very end of
a window of 2,000 ms comes within it is DEDUCED (log 40). -/
def Obligations.SettledLoadTaresOrGivesTheVerdict : Prop :=
  ∀ s : State,
    let p := s.plate.scan s.start.cfg s.pins.bridge
    let run := exec .plateSettled s
    s.plate.sampleLeft = some 0 → s.plate.restart = false → (p.load - s.plate.ref).natAbs ≤ s.start.cfg.settleBand →
    s.start.cfg.settleTime ≤ s.plate.clock - s.plate.runStart →
    let placed := fun (q : Provisional) (r : JobRecord) (t : State) => ∀ l, s.lineAt q.line = some l →
      let counted : LineRec :=
        { l with placed := l.placed + 1, claimed := l.claimed - 1, status := if l.placed + 1 = l.ordered then .lineDone else l.status }
      let lines := s.job.lines.set q.line (some counted)
      let each := fun (ok : LineStatus → Prop) => ∀ x, some x ∈ lines → ok x.status
      let closed := fun (o : JobOutcome) => ∃ phase, (phase = .closing ∨ phase = .ended) ∧
        t.job.record = some { r with phase := phase, outcome := some o, stall := none, collect := none }
      t.job.lines = lines ∧
      (each (fun st => st = .lineDone) → closed .complete) ∧
      (each (fun st => st = .lineDone ∨ st = .unplaceable) → ¬ each (fun st => st = .lineDone) → closed .short) ∧
      (¬ each (fun st => st = .lineDone ∨ st = .unplaceable) →
        t.job.record = some { r with stall := some (s.start.cfg.stallTime * 1000) })
    let lost := fun (id : CaseId) (line : LineRef) (t : State) =>
      (∀ n l, line = .counted n → s.lineAt n = some l → t.lineAt n = some { l with claimed := l.claimed - 1 }) ∧
      (s.bus.mode = .full → s.claim.backlog = [] → s.bus.inGroup .reportGroup < 7 → ∃ f ∈ t.bus.queue, f.payload = .release id 4) ∧
      Safety.RaisedOnce .caseLost s t
    let events := fun (committed mismatch notLanded : Prop) (t : State) =>
      let offCentre := 20000 ≤ p.load ∧
        (s.start.cfg.comTol < (t.plate.xm - t.map.committed.x).natAbs ∨ s.start.cfg.comTol < (t.plate.ym - t.map.committed.y).natAbs)
      (committed ∧ offCentre → Safety.RaisedOnce .offCentre s t) ∧ (¬ (committed ∧ offCentre) → Safety.NotRaised .offCentre s t) ∧
      (mismatch → Safety.RaisedOnce .massMismatch s t) ∧ (¬ mismatch → Safety.NotRaised .massMismatch s t) ∧
      (notLanded → Safety.RaisedOnce .notLanded s t) ∧ (¬ notLanded → Safety.NotRaised .notLanded s t) ∧
      (¬ committed → Safety.RaisedOnce .caseLost s t) ∧ (committed → Safety.NotRaised .caseLost s t) ∧
      Safety.NotRaised .unsettled s t
    run = exec (.plateSample s.pins.bridge) s ∧
    (s.plate.state = .taring → ∃ t : State, run = .next t ∧
      t.plate.state = .tared ∧ t.plate.b = p.f ∧ t.plate.f = p.f ∧ t.plate.load = 0 ∧ t.plate.lastSettled = 0 ∧
      t.plate.xm = 0 ∧ t.plate.ym = 0 ∧ t.plate.history = [] ∧ t.plate.taredAt = s.plate.clock ∧ t.plate.restart = true ∧
      t.plate.quietLeft = some s.start.cfg.quietTime) ∧
    (∀ w q, s.plate.state = .tared → s.plate.watch = some w → w.phase = .settling → w.orphaned = false →
      (∀ since, w.doneAt = some since → s.plate.clock ≤ since + 2000) → s.plate.evidence = none →
      s.map.prov = some q → q.caseId = w.caseId → s.planner.result = none →
      let gain : Int := p.load - w.open0
      let landed : Prop := ((w.m / 2 : Nat) : Int) ≤ gain
      let near : Prop := (gain - w.m).natAbs ≤ max 200 (w.m * s.start.cfg.massTol / 100)
      ∃ t : State, run = .next t ∧ t.plate.watch = none ∧ t.plate.verifyLeft = none ∧ t.plate.history = [] ∧
        t.plate.lastSettled = p.load ∧
        (¬ landed → t.map = s.map.rolledBack s.codeInUse q) ∧
        (landed → near → t.map = s.map.commitPlanned s.codeInUse q) ∧
        (landed → ¬ near → t.map = s.map.commitMeasured s.codeInUse (max 1 (min 65000 gain.toNat)) q) ∧
        events landed (landed ∧ ¬ near) (¬ landed) t ∧
        (∀ r, s.job.record = some r → r.phase = .active → (∀ e ∈ s.claim.sightings, e.state ≠ .ours) →
          (landed → placed q r t) ∧ (¬ landed → lost w.caseId w.line t))) ∧
    (∀ ev cmd tgt id q, s.plate.state = .tared → s.plate.evidence = some ev → s.plate.clock ≤ ev.askedAt + 2000 →
      (∀ w, s.plate.watch = some w → w.caseId = id ∧ w.doneAt = none) → s.arm.cmd = some cmd → cmd.action = .place tgt →
      cmd.caseId = some id → s.map.prov = some q → q.caseId = id → s.planner.result = none → s.staging.gripper = none →
      let gained : Prop := ((ev.m / 2 : Nat) : Int) ≤ p.load - ev.r0
      ∃ t : State, run = .next t ∧ t.plate.evidence = none ∧ t.plate.evidenceLeft = none ∧ t.plate.watch = none ∧
        t.plate.lastSettled = p.load ∧ t.arm = { s.arm with cmd := none } ∧ t.planner.flag = true ∧
        (gained → t.map = s.map.commitPlanned s.codeInUse q) ∧
        (¬ gained → t.map = s.map.rolledBack s.codeInUse q) ∧
        events gained False False t ∧
        (∀ r, s.job.record = some r → r.phase = .active → (∀ e ∈ s.claim.sightings, e.state ≠ .ours) →
          (gained → placed q r t) ∧ (¬ gained → lost id cmd.line t)))

/-- VERIFY_WINDOW_END (R157, R158: UNSETTLED, a commit with the planned mass, with the OFF CENTRE comparison of R162), EVIDENCE_WINDOW_END (R160, R145: NOT GAINED, the case lost), the
disturbance and overload timings (R163, R165) and QUIET_TIMER_EXPIRY (R166), each at its end. R150 has a timing met only at a sample at
which it has elapsed: that the three rows of the timings are the sample in hand, of the bridge inputs as last read, is the model's
choice (log 3), as it is that a row lets its timer run down first (log 2; here every timer stands at its end). Each of the six rows
answers a next state from every state. A commit that closes the job drops the OURS entries from the schedule (R16, R97, R119), so the
schedule is said to stay where no entry is OURS. -/
def Obligations.PlateTimersEnd : Prop :=
  ∀ s : State,
    let p := s.plate.scan s.start.cfg s.pins.bridge
    let sampled := exec (.plateSample s.pins.bridge) s
    let standing := fun (t : State) => t.map = s.map ∧
      t.job.lines = s.job.lines ∧ t.claim = s.claim ∧ t.staging.lane = s.staging.lane ∧ t.divert = s.divert ∧ t.pins = s.pins
    (∀ c : Instr, c = .verifyWindowEnd ∨ c = .evidenceWindowEnd ∨ c = .disturbanceTimingExpiry ∨ c = .disturbanceClearingExpiry ∨
      c = .overloadClearingExpiry ∨ c = .quietTimerExpiry → ∃ t : State, exec c s = .next t) ∧
    (∀ w q, s.plate.verifyLeft = some 0 → s.plate.watch = some w → w.phase = .settling → s.map.prov = some q → q.caseId = w.caseId →
      s.planner.result = none →
      ∃ t : State, exec .verifyWindowEnd s = .next t ∧ t.map = s.map.commitPlanned s.codeInUse q ∧ t.plate.watch = none ∧
        t.plate.verifyLeft = none ∧ t.plate.history = [] ∧ t.start = s.start ∧ t.travel = s.travel ∧
        Safety.RaisedOnce .unsettled s t ∧
        (let committed := t.map.committed
         let offCentre := 20000 ≤ s.plate.load ∧
           (s.start.cfg.comTol < (s.plate.xm - committed.x).natAbs ∨ s.start.cfg.comTol < (s.plate.ym - committed.y).natAbs)
         (offCentre → Safety.RaisedOnce .offCentre s t) ∧ (¬ offCentre → Safety.NotRaised .offCentre s t)) ∧
        ((∀ e ∈ s.claim.sightings, e.state ≠ .ours) → t.divert = s.divert) ∧ t.pins = s.pins ∧ t.pending = s.pending) ∧
    (∀ ev cmd id tgt q, s.plate.evidenceLeft = some 0 → s.plate.evidence = some ev → s.arm.cmd = some cmd → cmd.caseId = some id →
      cmd.action = .place tgt → s.map.prov = some q → q.caseId = id →
      ∃ t : State, exec .evidenceWindowEnd s = .next t.finish ∧ t.map = s.map.rolledBack s.codeInUse q ∧ t.plate.evidence = none ∧
        t.plate.evidenceLeft = none ∧ t.arm = { s.arm with cmd := none } ∧ t.planner.flag = true ∧ t.events = (s.raise .caseLost).events ∧
        t.start = s.start ∧ t.travel = s.travel ∧ t.divert = s.divert ∧ t.pins = s.pins ∧ t.pending = s.pending) ∧
    (s.plate.sampleLeft = some 0 → s.plate.state = .tared → s.plate.watch = none → s.plate.evidence = none →
      (∀ since, s.plate.disturbFrom = some since → since + s.start.cfg.settleTime ≤ s.plate.clock → s.plate.disturbed = false →
        s.start.cfg.disturbBand < (p.load - s.map.mTot).natAbs →
        ∃ t : State, exec .disturbanceTimingExpiry s = .next t.finish ∧ sampled = .next t.finish ∧ t.plate.disturbed = true ∧
          t.plate.disturbFrom = none ∧ t.plate.clearFrom = none ∧ t.planner.holds.disturbed = true ∧
          Safety.RaisedOnce .plateDisturbed s t ∧ standing t) ∧
      (∀ since, s.plate.clearFrom = some since → since + s.start.cfg.settleTime ≤ s.plate.clock → s.plate.disturbed = true →
        (p.load - s.map.mTot).natAbs ≤ s.start.cfg.disturbBand →
        ∃ t : State, exec .disturbanceClearingExpiry s = .next t.finish ∧ sampled = .next t.finish ∧ t.plate.disturbed = false ∧
          t.plate.disturbFrom = none ∧ t.plate.clearFrom = none ∧ t.planner.holds.disturbed = false ∧ standing t)) ∧
    (∀ since, s.plate.sampleLeft = some 0 → s.plate.overClearFrom = some since → since + s.start.cfg.settleTime ≤ s.plate.clock →
      s.plate.overload = true → (∀ m ∈ p.masses, m ≤ ((s.start.cfg.channelLimitKg * 1000 : Nat) : Int)) →
      ∃ t : State, exec .overloadClearingExpiry s = .next t.finish ∧ sampled = .next t.finish ∧ t.plate.overload = false ∧
        t.plate.overClearFrom = none ∧ t.planner.holds.overload = false ∧
        (s.plate.watch = none → s.plate.evidence = none → standing t)) ∧
    (s.plate.quietLeft = some 0 → exec .quietTimerExpiry s = .next { s with plate := { s.plate with quietLeft := none } })

/-! ### Planning -/

/-- PLANNING_PASS_START (R54): a pass starts exactly when all conditions hold, and the flag is cleared. PLANNING_PASS_END (R55 to R58): its
choice is discarded under a hold or a busy port, held where it was planned over a provisional placement, and else issued: a PLACE once
the map has taken the write, the other actions at once. What a pass chooses (R47 to R53): outside ACTIVE, or for a gripper case with
disposition RETURN, the return of the first member; the return of the first case that cannot belong to the pallet; else the best
candidate of the first case in case order that has one, the lowest and of equals the first in scan order; else the fallback of R52,
which returns the earliest staged of the cases it may return. That the first of two cases staged in the same ms counts as the earlier
(log 25), and that a lane whose head carries a command mark is passed over as an empty one is (log 51), is the model's choice. -/
def Obligations.PassesStartAndEnd : Prop :=
  ∀ s : State,
    let free : Prop := s.arm.port = .ready ∧ s.arm.cmd = none
    let may : Prop := s.planner.flag = true ∧ s.planner.pass = none ∧ s.planner.result = none ∧ s.planner.holds.any = false ∧
      s.stagedSet ≠ [] ∧ (free ∨ (s.phase = some .active ∧ s.map.prov ≠ none))
    (may → exec .planningPassStart s = .next { s with planner := { s.planner with flag := false, pass := some s.passInputs } }) ∧
    (¬ may → exec .planningPassStart s = .next s) ∧
    (s.planner.pass = none → exec .planningPassEnd s = .next s) ∧
    (∀ p, s.planner.pass = some p →
      let without := fun (flag : Bool) => ({ s with planner := { s.planner with pass := none, flag := flag } } : State)
      (s.choose p = none → exec .planningPassEnd s = .next (without s.planner.flag).finish) ∧
      (∀ a m, s.choose p = some (a, m) →
        let cmd : Outstanding :=
          { action := a, tag := s.arm.tag + 1, caseId := m.record.caseId, source := m.source,
            line := s.lineAtSource m.source m.record.caseId, progress := .sent }
        (s.planner.holds.any = true → exec .planningPassEnd s = .next (without true).finish) ∧
        (∀ c, s.planner.holds.any = false → p.prior = some c → exec .planningPassEnd s = .next (({ s with
          planner := { s.planner with
            pass := none
            result := some { action := a, caseId := m.record.caseId, source := m.source, prior := some c, released := false } } } :
              State).finish)) ∧
        (s.planner.holds.any = false → p.prior = none → ¬ free → exec .planningPassEnd s = .next (without true).finish) ∧
        (s.planner.holds.any = false → p.prior = none → free → a.command ≠ .place →
          ∃ t : State, exec .planningPassEnd s = .next t.finish ∧ t.arm.cmd = some cmd ∧ t.arm.port = .awaitAccept ∧
            t.arm.tag = s.arm.tag + 1 ∧ t.planner = { s.planner with pass := none, result := none } ∧ t.map = s.map ∧ t.job = s.job ∧
            t.plate = s.plate ∧ t.events = s.events ∧ t.start = s.start) ∧
        (∀ tgt id mp, s.planner.holds.any = false → p.prior = none → free → a = .place tgt → m.record.caseId = some id →
          s.writeRequest id tgt = some mp →
          ∃ t : State, exec .planningPassEnd s = .next t.finish ∧ t.arm.cmd = some cmd ∧ t.arm.port = .awaitAccept ∧
            t.arm.tag = s.arm.tag + 1 ∧ t.planner = { s.planner with pass := none, result := none, flag := true } ∧ t.map = mp ∧
            t.job = s.job ∧ t.plate = s.plate ∧ t.events = s.events ∧ t.start = s.start) ∧
        (∀ tgt id, s.planner.holds.any = false → p.prior = none → free → a = .place tgt → m.record.caseId = some id →
          s.writeRequest id tgt = none →
          exec .planningPassEnd s = .next (({ s with planner := { s.planner with pass := none, result := none, flag := true } } :
            State).finish)))) ∧
    (∀ p : Pass,
      let feasible := fun (f : Figures) (c r : Nat) (o : Bool) => s.feasible p.effHeight p.effLoad f c r o
      let allowed := fun (f : Figures) (c r : Nat) (o : Bool) =>
        c < gridColumns s.codeInUse ∧ r < gridRows s.codeInUse ∧ (f.faceLock = true → o = false)
      let hopelessNow := fun (m : Member) => m.figures.any (fun f =>
        decide (p.effHeight < f.h + p.lowest ∨ p.effLoad < s.map.standing.m + p.won ∨
          fitsSomewhere s.codeInUse f.length f.width f.faceLock = false ∨ m.shut = true ∨ p.phase = some .closing))
      let noPlace := fun (m : Member) => ∀ f c r o, m.figures = some f → allowed f c r o → feasible f c r o = none
      let planning := p.phase = some .active ∧ p.disposition ≠ .ret
      let outcast := fun (m : Member) => m.figures = none ∨ m.excess = true
      (¬ planning → s.choose p = p.members.head?.map (fun m => (.ret, m))) ∧
      (planning →
        (∀ before m after, p.members = before ++ m :: after → (∀ x ∈ before, ¬ outcast x) → outcast m → s.choose p = some (.ret, m)) ∧
        ((∀ x ∈ p.members, ¬ outcast x) →
          (∀ before m after f, caseOrder p.members = before ++ m :: after → (∀ x ∈ before, noPlace x) → m.figures = some f → ¬ noPlace m →
            ∃ t : PlaceTarget, s.choose p = some (.place t, m) ∧ t.figures = f ∧ allowed f t.col t.row t.turned ∧
              feasible f t.col t.row t.turned = some t.rest ∧
              ∀ c r o rest, allowed f c r o → feasible f c r o = some rest → t.rest ≤ rest ∧
                (rest = t.rest → t.row < r ∨ (t.row = r ∧ (t.col < c ∨ (t.col = c ∧ (t.turned = false ∨ o = true)))))) ∧
          ((∀ x ∈ p.members, noPlace x) →
            (∀ m, p.members = [m] → m.source = .gripper → s.choose p = some (.ret, m)) ∧
            (∀ m rest, p.members = m :: rest → m.source = .lane → (∀ x ∈ rest, ∃ b, x.source = .buffer b) →
              (hopelessNow m = true → s.choose p = some (.ret, m)) ∧
              (∀ b, hopelessNow m = false → p.freeBuffer = some b → s.choose p = some (.setAside b, m)) ∧
              (hopelessNow m = false → p.freeBuffer = none → s.choose p = (earliest p.members).map (fun x => (.ret, x)))) ∧
            ((∀ x ∈ p.members, ∃ b, x.source = .buffer b) →
              ((∀ x ∈ p.members, hopelessNow x = false) → s.choose p = none) ∧
              ((∃ x ∈ p.members, hopelessNow x = true) →
                s.choose p = (earliest (p.members.filter hopelessNow)).map (fun m => (.ret, m)) ∧
                ∃ m ∈ p.members, hopelessNow m = true ∧ s.choose p = some (.ret, m)))))) ∧
      (caseOrder p.members).Perm p.members ∧
      (∀ x y : Member, caseOrder [x, y] = if caseBefore y x then [y, x] else [x, y]) ∧
      (∀ (ms : List Member) (y : Member), earliest (ms ++ [y]) = some (match earliest ms with
        | some x => if 0 < (x.record.staged - y.record.staged).toInt then y else x
        | none => y)) ∧
      (∀ (x y : Member) (a b : Figures), x.figures = some a → y.figures = some b →
        (caseBefore x y = true ↔ b.rank < a.rank ∨ (a.rank = b.rank ∧ (a.crushClass < b.crushClass ∨ (a.crushClass = b.crushClass ∧
          (b.m < a.m ∨ (a.m = b.m ∧ 0 < (y.record.staged - x.record.staged).toInt))))))))

/-- R38 to R46: a candidate is feasible, at its rest height, exactly when it passes the eight tests. -/
def Obligations.FeasibleMeansTheEightTests : Prop :=
  ∀ (s : State) (effHeight effLoad : Nat) (f : Figures) (c r : Nat) (turned : Bool) (rest : Nat),
    let side := fun (mm : Nat) => max 1 (min 16 ((mm + 49) / 50))
    let lc := side (if turned then f.width else f.length)
    let wr := side (if turned then f.length else f.width)
    let code := s.codeInUse
    let cells := (footprintCells code c r lc wr).map s.map.cellAt
    let supporting := cells.filter (fun x => decide (rest ≤ x.top + s.start.cfg.supportTol))
    let n := supporting.length
    let after := s.map.standing.plus f.m ((c * 50 : Int) + (lc * 50 / 2 : Nat) - (palletLength code / 2 : Nat))
      ((r * 50 : Int) + (wr * 50 / 2 : Nat) - (palletWidth code / 2 : Nat)) (rest + f.h / 2)
    (s.feasible effHeight effLoad f c r turned = some rest ↔
      c + lc ≤ gridColumns code ∧ r + wr ≤ gridRows code ∧ lc * wr ≤ 192 ∧
      (∀ x ∈ cells, x.top ≤ rest) ∧ (∃ x ∈ cells, x.top = rest) ∧
      rest + f.h ≤ effHeight ∧
      lc * wr * s.start.cfg.supportPct ≤ 100 * n ∧
      (∀ x ∈ supporting, f.rank ≤ x.rank + s.start.cfg.zoneSlack) ∧
      (∀ x ∈ supporting, x.reserve = 65535 ∨ (f.m + n - 1) / n ≤ x.reserve) ∧
      s.map.standing.m + f.m ≤ effLoad ∧
      (s.map.standing.m + f.m < s.start.cfg.comThresholdKg * 1000 ∨
        ((after.x.natAbs ≤ max 40 (s.start.cfg.wx0 - after.z / 16) ∨ after.x.natAbs ≤ s.map.standing.x.natAbs) ∧
          (after.y.natAbs ≤ max 40 (s.start.cfg.wy0 - after.z / 16) ∨ after.y.natAbs ≤ s.map.standing.y.natAbs))))

/-! ### The stack map -/

/-- R28 to R31, R33: a write is refused under a provisional placement, outside ACTIVE, off the grid or above the height limit. Written,
each cell of the footprint has the new top, the case's rank, the new reserve and the mark, and every other cell is as it was. A
rollback of the write gives back the grid exactly. A commit with the planned mass turns the standing figures into the committed ones,
keeps heights, ranks and reserves, and adds one to the count and the sequence; one with a measured mass does the same with that mass,
and gives the footprint's cells the reserve that the mass leaves. -/
def Obligations.WriteThenRollbackOrCommit : Prop :=
  ∀ (s : State) (id : CaseId) (t : PlaceTarget) (mp : StackMap), s.map.cells.length = 480 → (∀ x ∈ s.map.cells, x.mark = false) →
    s.writeRequest id t = some mp →
    s.map.prov = none ∧ s.phase = some .active ∧
    ∃ p, mp.prov = some p ∧ p.caseId = id ∧ p.rest + p.h ≤ (s.job.record.map (fun r => r.effHeight)).getD 0 ∧
      p.col + p.lc ≤ gridColumns s.codeInUse ∧ p.row + p.wr ≤ gridRows s.codeInUse ∧ mp.committed = s.map.committed ∧
      mp.rolledBack s.codeInUse p = s.map ∧
      (let idx := footprintCells s.codeInUse t.col t.row p.lc p.wr
       let supporting := (idx.map s.map.cellAt).filter (fun c => decide (p.rest ≤ c.top + s.start.cfg.supportTol))
       let reserve := fun (m : Nat) =>
         let load := (m + supporting.length - 1) / supporting.length
         min ((supporting.map (fun c => if c.reserve = 65535 then 65535 else c.reserve - load)).foldl min 65535) (rating t.figures.crushClass)
       let summed := fun (m : Nat) (done : StackMap) =>
         s.map.mTot + m < 2 ^ 32 → s.map.sz + m * p.z < 2 ^ 32 →
         -2147483648 ≤ s.map.sx + m * p.x → s.map.sx + m * p.x ≤ 2147483647 →
         -2147483648 ≤ s.map.sy + m * p.y → s.map.sy + m * p.y ≤ 2147483647 → s.map.count < 65535 → s.map.seq < 65535 →
         done.committed = s.map.committed.plus m p.x p.y p.z ∧ done.standing = done.committed ∧
         done.count = s.map.count + 1 ∧ done.seq = s.map.seq + 1
       (∀ i ∈ idx, (s.map.cellAt i).top ≤ p.rest) ∧ (idx = [] ∨ ∃ i ∈ idx, (s.map.cellAt i).top = p.rest) ∧
       (∀ i, mp.cellAt i =
         if i ∈ idx then { top := p.rest + t.figures.h, rank := t.figures.rank, reserve := reserve t.figures.m, mark := true }
         else s.map.cellAt i) ∧
       (let done := mp.commitPlanned s.codeInUse p
        summed t.figures.m done ∧ done.cells.length = 480 ∧ (∀ x ∈ done.cells, x.mark = false) ∧
        (∀ i, done.cellAt i = { mp.cellAt i with mark := false }) ∧
        (s.map.mTot + p.m < 2 ^ 32 → s.map.sz + p.m * p.z < 2 ^ 32 →
          -2147483648 ≤ s.map.sx + p.m * p.x → s.map.sx + p.m * p.x ≤ 2147483647 →
          -2147483648 ≤ s.map.sy + p.m * p.y → s.map.sy + p.m * p.y ≤ 2147483647 → done.committed = mp.standing)) ∧
       ∀ m,
         let done := mp.commitMeasured s.codeInUse m p
         summed m done ∧ done.cells.length = 480 ∧ (∀ x ∈ done.cells, x.mark = false) ∧
         ∀ i, done.cellAt i = if i ∈ idx then { mp.cellAt i with mark := false, reserve := reserve m } else mp.cellAt i)

/-! ### Events and the status timers -/

/-- R167, R168, R169, R173: what a raised event does, by the class in force. -/
def Obligations.EventsActByTheirClass : Prop :=
  ∀ (s : State) (e : EventKind),
    let n := e.number
    let t := s.raise e
    let cls := s.start.cfg.classes.getD n .off
    let counted : EventUnit := { s.events with counters := s.events.counters.modify n (fun k => min 255 (k + 1)) }
    let latched : EventUnit := { counted with latched := s.events.latched ||| BitVec.twoPow 24 n }
    let v : State := { s with events := latched }
    (s.start.state = .starting → t = s) ∧
    (s.start.state ≠ .starting →
      (cls = .off → t = s) ∧
      (cls = .count → t = { s with events := counted }) ∧
      (cls = .deferred → t = v) ∧
      (cls = .prompt → s.events.latched.getLsbD n = true → t = { s with events := counted }) ∧
      (∀ left, cls = .prompt → s.events.latched.getLsbD n = false → s.events.holdoff = some left →
        t = { s with events := { latched with prompt := true } }) ∧
      (cls = .prompt → s.events.latched.getLsbD n = false → s.events.holdoff = none →
        t = { s with events := { latched with prompt := false }, bus := s.bus.queueStatus v.statusFields }) ∧
      (cls = .prompt → t.alert = true))

/-- STATUS_TIMER_EXPIRY (R172, R98) and HOLDOFF_EXPIRY (R173) at the timer's end: the period restarts, the heard peers age by one up to 3,
and a CELL STATUS composed now is queued; the holdoff queues one only where a prompt is pending. What a CELL STATUS carries (R170, R171):
the cell state, the job, the map's figures, the staged count, the flags, one of them STARVING (R99), the latched events, the divert
offset, and the wanted list (R100), which holds up to three products, each once, by the greatest room among the lines of the product that
can still take a case, of equal room the one with the lower line number first. -/
def Obligations.StatusTimersQueueTheStatus : Prop :=
  (∀ s : State,
    let f := s.statusFields
    let job := s.job.record
    let starving := ∃ r left, job = some r ∧ r.phase = .active ∧ r.stall = some left ∧ s.staging.lane = [] ∧
      (∀ b ∈ s.staging.buffer, b = none) ∧ s.staging.gripper = none ∧
      (∀ e ∈ s.claim.sightings, e.state ≠ .ours ∧ e.state ≠ .diverting) ∧
      s.start.cfg.stallTime * 1000 < 2 * (s.start.cfg.stallTime * 1000 - left)
    let room := fun (l : LineRec) => l.ordered - l.placed - l.claimed
    let takes := fun (n : Nat) (l : LineRec) => s.lineAt n = some l ∧ l.status = .lineOpen ∧ 0 < room l
    let before := fun (n : Nat) (l : LineRec) (n' : Nat) (l' : LineRec) => room l' < room l ∨ (room l' = room l ∧ n < n')
    let first := fun (n : Nat) (l : LineRec) => takes n l ∧ ∀ n' l', takes n' l' → l'.product = l.product → ¬ before n' l' n l
    let staged := s.staging.lane.length + (s.staging.buffer.filter (fun b => b.isSome)).length + (if s.staging.gripper.isSome then 1 else 0)
    f.cellState.toNat = s.cellState ∧
    s.cellState = (match s.start.state with
      | .starting => 0
      | .joining => 1
      | .unnumbered => 2
      | .idle => if s.start.lockout then 3 else match s.phase with
        | none => 4
        | some .collecting => 5
        | some .active => 6
        | some .closing => 7
        | some .ended => 8) ∧
    f.job = job.elim 0 (fun r => r.job) ∧ (s.map.seq ≤ 65535 → f.lastSeq.toNat = s.map.seq) ∧
    f.loadKg.toNat = min 65535 (s.map.mTot / 1000) ∧ (staged ≤ 255 → f.staged.toNat = staged) ∧
    (f.flags.getLsbD 0 = true ↔ starving) ∧ (s.starving = true ↔ starving) ∧
    (f.flags.getLsbD 1 = s.planner.holds.any) ∧ (f.flags.getLsbD 2 = true ↔ s.travel.lock = .locked) ∧
    (∀ i, 3 ≤ i → f.flags.getLsbD i = false) ∧ f.summary = s.events.latched ∧
    (s.start.cfg.divertOffset ≤ 655350 → f.offset10.toNat = s.start.cfg.divertOffset / 10) ∧
    (TxPayload.status f).bytes.length = 14 + 4 * f.wanted.length ∧ f.wanted.length ≤ 3 ∧ f.wanted.Nodup ∧
    (s.phase ≠ some .active → f.wanted = []) ∧
    (s.phase = some .active →
      (∀ p ∈ f.wanted, ∃ n l, first n l ∧ l.product = p) ∧
      (∀ (i j n n' : Nat) (l l' : LineRec), i < j → f.wanted[i]? = some l.product → f.wanted[j]? = some l'.product → first n l → first n' l' →
        before n l n' l') ∧
      (∀ n l, first n l → l.product ∈ f.wanted ∨
        (f.wanted.length = 3 ∧ ∀ n' l', first n' l' → l'.product ∈ f.wanted → before n' l' n l)))) ∧
  ∀ s : State,
    (s.events.status = some 0 → exec .statusTimerExpiry s = .next (({ s with
      events := { s.events with status := some s.start.cfg.statusPeriod, prompt := false }
      claim := { s.claim with peers := s.claim.peers.map (fun p => if p.heard then { p with age := min 3 (p.age + 1) } else p) }
      bus := s.bus.queueStatus s.statusFields } : State).finish)) ∧
    (s.events.holdoff = some 0 → s.events.prompt = true → exec .holdoffExpiry s = .next (({ s with
      events := { s.events with holdoff := none, prompt := false }
      bus := s.bus.queueStatus s.statusFields } : State).finish)) ∧
    (s.events.holdoff = some 0 → s.events.prompt = false →
      exec .holdoffExpiry s = .next { s with events := { s.events with holdoff := none } })

/-! ### Invariants -/

/-- The state right after reset meets every invariant stated below. -/
def Obligations.ResetMeetsTheInvariants : Prop :=
  Safety.TravelDigits State.reset ∧ Safety.FixedStores State.reset ∧ Safety.ListsInBounds State.reset ∧
    Safety.QueueInPlaces State.reset ∧ Safety.CasesInOrder State.reset ∧ Safety.ArrivalsAscend State.reset

/-- R104, R105: the micrometre count stays below 1,000 and the remainder below R at every step. -/
def Obligations.EveryStepKeepsTheTravelDigits : Prop :=
  ∀ s t : State, Safety.TravelDigits s → step s = .next t → Safety.TravelDigits t

/-- Every step keeps the number of places of each store, the 8-bit range of each event counter and the greatest lengths of the lists. -/
def Obligations.EveryStepKeepsTheStoresInBounds : Prop :=
  ∀ s t : State, Safety.FixedStores s → Safety.ListsInBounds s → step s = .next t → Safety.FixedStores t ∧ Safety.ListsInBounds t

/-- R68, R69, R71: every step keeps the groups of the transmit queue within their places and at most one frame SENDING. -/
def Obligations.EveryStepKeepsTheQueueInPlaces : Prop :=
  ∀ s t : State, Safety.QueueInPlaces s → step s = .next t → Safety.QueueInPlaces t

/-- R81, R85, R112, R114, R125, R126: every step keeps the case ids apart, every scheduled case in transit, the table within 16 entries and
the lane occupancy within 6, so that a confirmed case always finds room on the lane. And, while arrivals lie near enough for travel
values to compare soundly (R106), every step keeps the sighting table and the schedule in ascending order of arrival travel. -/
def Obligations.EveryStepKeepsTheCasesInOrder : Prop :=
  (∀ s t : State, Safety.CasesInOrder s → step s = .next t → Safety.CasesInOrder t) ∧
  (∀ s t : State, Safety.CasesInOrder s → Safety.ArrivalsNear s → Safety.ArrivalsAscend s → step s = .next t → Safety.ArrivalsAscend t)
end

