-- ==== Sys2Proof/Laws/State.lean ====
section
/-! SUPPORT. One lemma for each field of the state under each named update, so that no later proof unfolds an update. -/

namespace Sys2Proof.Machine

variable (s : State)

@[simp] theorem State.setStart_start (x : StartCtl) : (s.setStart x).start = x := rfl
@[simp] theorem State.setStart_bus (x : StartCtl) : (s.setStart x).bus = s.bus := rfl
@[simp] theorem State.setStart_claim (x : StartCtl) : (s.setStart x).claim = s.claim := rfl
@[simp] theorem State.setStart_job (x : StartCtl) : (s.setStart x).job = s.job := rfl
@[simp] theorem State.setStart_map (x : StartCtl) : (s.setStart x).map = s.map := rfl
@[simp] theorem State.setStart_planner (x : StartCtl) : (s.setStart x).planner = s.planner := rfl
@[simp] theorem State.setStart_travel (x : StartCtl) : (s.setStart x).travel = s.travel := rfl
@[simp] theorem State.setStart_divert (x : StartCtl) : (s.setStart x).divert = s.divert := rfl
@[simp] theorem State.setStart_staging (x : StartCtl) : (s.setStart x).staging = s.staging := rfl
@[simp] theorem State.setStart_arm (x : StartCtl) : (s.setStart x).arm = s.arm := rfl
@[simp] theorem State.setStart_plate (x : StartCtl) : (s.setStart x).plate = s.plate := rfl
@[simp] theorem State.setStart_events (x : StartCtl) : (s.setStart x).events = s.events := rfl
@[simp] theorem State.setStart_pins (x : StartCtl) : (s.setStart x).pins = s.pins := rfl
@[simp] theorem State.setStart_pending (x : StartCtl) : (s.setStart x).pending = s.pending := rfl

@[simp] theorem State.setBus_start (x : Bus) : (s.setBus x).start = s.start := rfl
@[simp] theorem State.setBus_bus (x : Bus) : (s.setBus x).bus = x := rfl
@[simp] theorem State.setBus_claim (x : Bus) : (s.setBus x).claim = s.claim := rfl
@[simp] theorem State.setBus_job (x : Bus) : (s.setBus x).job = s.job := rfl
@[simp] theorem State.setBus_map (x : Bus) : (s.setBus x).map = s.map := rfl
@[simp] theorem State.setBus_planner (x : Bus) : (s.setBus x).planner = s.planner := rfl
@[simp] theorem State.setBus_travel (x : Bus) : (s.setBus x).travel = s.travel := rfl
@[simp] theorem State.setBus_divert (x : Bus) : (s.setBus x).divert = s.divert := rfl
@[simp] theorem State.setBus_staging (x : Bus) : (s.setBus x).staging = s.staging := rfl
@[simp] theorem State.setBus_arm (x : Bus) : (s.setBus x).arm = s.arm := rfl
@[simp] theorem State.setBus_plate (x : Bus) : (s.setBus x).plate = s.plate := rfl
@[simp] theorem State.setBus_events (x : Bus) : (s.setBus x).events = s.events := rfl
@[simp] theorem State.setBus_pins (x : Bus) : (s.setBus x).pins = s.pins := rfl
@[simp] theorem State.setBus_pending (x : Bus) : (s.setBus x).pending = s.pending := rfl

@[simp] theorem State.setClaim_start (x : ClaimEngine) : (s.setClaim x).start = s.start := rfl
@[simp] theorem State.setClaim_bus (x : ClaimEngine) : (s.setClaim x).bus = s.bus := rfl
@[simp] theorem State.setClaim_claim (x : ClaimEngine) : (s.setClaim x).claim = x := rfl
@[simp] theorem State.setClaim_job (x : ClaimEngine) : (s.setClaim x).job = s.job := rfl
@[simp] theorem State.setClaim_map (x : ClaimEngine) : (s.setClaim x).map = s.map := rfl
@[simp] theorem State.setClaim_planner (x : ClaimEngine) : (s.setClaim x).planner = s.planner := rfl
@[simp] theorem State.setClaim_travel (x : ClaimEngine) : (s.setClaim x).travel = s.travel := rfl
@[simp] theorem State.setClaim_divert (x : ClaimEngine) : (s.setClaim x).divert = s.divert := rfl
@[simp] theorem State.setClaim_staging (x : ClaimEngine) : (s.setClaim x).staging = s.staging := rfl
@[simp] theorem State.setClaim_arm (x : ClaimEngine) : (s.setClaim x).arm = s.arm := rfl
@[simp] theorem State.setClaim_plate (x : ClaimEngine) : (s.setClaim x).plate = s.plate := rfl
@[simp] theorem State.setClaim_events (x : ClaimEngine) : (s.setClaim x).events = s.events := rfl
@[simp] theorem State.setClaim_pins (x : ClaimEngine) : (s.setClaim x).pins = s.pins := rfl
@[simp] theorem State.setClaim_pending (x : ClaimEngine) : (s.setClaim x).pending = s.pending := rfl

@[simp] theorem State.setJob_start (x : JobUnit) : (s.setJob x).start = s.start := rfl
@[simp] theorem State.setJob_bus (x : JobUnit) : (s.setJob x).bus = s.bus := rfl
@[simp] theorem State.setJob_claim (x : JobUnit) : (s.setJob x).claim = s.claim := rfl
@[simp] theorem State.setJob_job (x : JobUnit) : (s.setJob x).job = x := rfl
@[simp] theorem State.setJob_map (x : JobUnit) : (s.setJob x).map = s.map := rfl
@[simp] theorem State.setJob_planner (x : JobUnit) : (s.setJob x).planner = s.planner := rfl
@[simp] theorem State.setJob_travel (x : JobUnit) : (s.setJob x).travel = s.travel := rfl
@[simp] theorem State.setJob_divert (x : JobUnit) : (s.setJob x).divert = s.divert := rfl
@[simp] theorem State.setJob_staging (x : JobUnit) : (s.setJob x).staging = s.staging := rfl
@[simp] theorem State.setJob_arm (x : JobUnit) : (s.setJob x).arm = s.arm := rfl
@[simp] theorem State.setJob_plate (x : JobUnit) : (s.setJob x).plate = s.plate := rfl
@[simp] theorem State.setJob_events (x : JobUnit) : (s.setJob x).events = s.events := rfl
@[simp] theorem State.setJob_pins (x : JobUnit) : (s.setJob x).pins = s.pins := rfl
@[simp] theorem State.setJob_pending (x : JobUnit) : (s.setJob x).pending = s.pending := rfl

@[simp] theorem State.setMap_start (x : StackMap) : (s.setMap x).start = s.start := rfl
@[simp] theorem State.setMap_bus (x : StackMap) : (s.setMap x).bus = s.bus := rfl
@[simp] theorem State.setMap_claim (x : StackMap) : (s.setMap x).claim = s.claim := rfl
@[simp] theorem State.setMap_job (x : StackMap) : (s.setMap x).job = s.job := rfl
@[simp] theorem State.setMap_map (x : StackMap) : (s.setMap x).map = x := rfl
@[simp] theorem State.setMap_planner (x : StackMap) : (s.setMap x).planner = s.planner := rfl
@[simp] theorem State.setMap_travel (x : StackMap) : (s.setMap x).travel = s.travel := rfl
@[simp] theorem State.setMap_divert (x : StackMap) : (s.setMap x).divert = s.divert := rfl
@[simp] theorem State.setMap_staging (x : StackMap) : (s.setMap x).staging = s.staging := rfl
@[simp] theorem State.setMap_arm (x : StackMap) : (s.setMap x).arm = s.arm := rfl
@[simp] theorem State.setMap_plate (x : StackMap) : (s.setMap x).plate = s.plate := rfl
@[simp] theorem State.setMap_events (x : StackMap) : (s.setMap x).events = s.events := rfl
@[simp] theorem State.setMap_pins (x : StackMap) : (s.setMap x).pins = s.pins := rfl
@[simp] theorem State.setMap_pending (x : StackMap) : (s.setMap x).pending = s.pending := rfl

@[simp] theorem State.setPlanner_start (x : Planner) : (s.setPlanner x).start = s.start := rfl
@[simp] theorem State.setPlanner_bus (x : Planner) : (s.setPlanner x).bus = s.bus := rfl
@[simp] theorem State.setPlanner_claim (x : Planner) : (s.setPlanner x).claim = s.claim := rfl
@[simp] theorem State.setPlanner_job (x : Planner) : (s.setPlanner x).job = s.job := rfl
@[simp] theorem State.setPlanner_map (x : Planner) : (s.setPlanner x).map = s.map := rfl
@[simp] theorem State.setPlanner_planner (x : Planner) : (s.setPlanner x).planner = x := rfl
@[simp] theorem State.setPlanner_travel (x : Planner) : (s.setPlanner x).travel = s.travel := rfl
@[simp] theorem State.setPlanner_divert (x : Planner) : (s.setPlanner x).divert = s.divert := rfl
@[simp] theorem State.setPlanner_staging (x : Planner) : (s.setPlanner x).staging = s.staging := rfl
@[simp] theorem State.setPlanner_arm (x : Planner) : (s.setPlanner x).arm = s.arm := rfl
@[simp] theorem State.setPlanner_plate (x : Planner) : (s.setPlanner x).plate = s.plate := rfl
@[simp] theorem State.setPlanner_events (x : Planner) : (s.setPlanner x).events = s.events := rfl
@[simp] theorem State.setPlanner_pins (x : Planner) : (s.setPlanner x).pins = s.pins := rfl
@[simp] theorem State.setPlanner_pending (x : Planner) : (s.setPlanner x).pending = s.pending := rfl

@[simp] theorem State.setTravel_start (x : TravelUnit) : (s.setTravel x).start = s.start := rfl
@[simp] theorem State.setTravel_bus (x : TravelUnit) : (s.setTravel x).bus = s.bus := rfl
@[simp] theorem State.setTravel_claim (x : TravelUnit) : (s.setTravel x).claim = s.claim := rfl
@[simp] theorem State.setTravel_job (x : TravelUnit) : (s.setTravel x).job = s.job := rfl
@[simp] theorem State.setTravel_map (x : TravelUnit) : (s.setTravel x).map = s.map := rfl
@[simp] theorem State.setTravel_planner (x : TravelUnit) : (s.setTravel x).planner = s.planner := rfl
@[simp] theorem State.setTravel_travel (x : TravelUnit) : (s.setTravel x).travel = x := rfl
@[simp] theorem State.setTravel_divert (x : TravelUnit) : (s.setTravel x).divert = s.divert := rfl
@[simp] theorem State.setTravel_staging (x : TravelUnit) : (s.setTravel x).staging = s.staging := rfl
@[simp] theorem State.setTravel_arm (x : TravelUnit) : (s.setTravel x).arm = s.arm := rfl
@[simp] theorem State.setTravel_plate (x : TravelUnit) : (s.setTravel x).plate = s.plate := rfl
@[simp] theorem State.setTravel_events (x : TravelUnit) : (s.setTravel x).events = s.events := rfl
@[simp] theorem State.setTravel_pins (x : TravelUnit) : (s.setTravel x).pins = s.pins := rfl
@[simp] theorem State.setTravel_pending (x : TravelUnit) : (s.setTravel x).pending = s.pending := rfl

@[simp] theorem State.setDivert_start (x : List DivertEntry) : (s.setDivert x).start = s.start := rfl
@[simp] theorem State.setDivert_bus (x : List DivertEntry) : (s.setDivert x).bus = s.bus := rfl
@[simp] theorem State.setDivert_claim (x : List DivertEntry) : (s.setDivert x).claim = s.claim := rfl
@[simp] theorem State.setDivert_job (x : List DivertEntry) : (s.setDivert x).job = s.job := rfl
@[simp] theorem State.setDivert_map (x : List DivertEntry) : (s.setDivert x).map = s.map := rfl
@[simp] theorem State.setDivert_planner (x : List DivertEntry) : (s.setDivert x).planner = s.planner := rfl
@[simp] theorem State.setDivert_travel (x : List DivertEntry) : (s.setDivert x).travel = s.travel := rfl
@[simp] theorem State.setDivert_divert (x : List DivertEntry) : (s.setDivert x).divert = x := rfl
@[simp] theorem State.setDivert_staging (x : List DivertEntry) : (s.setDivert x).staging = s.staging := rfl
@[simp] theorem State.setDivert_arm (x : List DivertEntry) : (s.setDivert x).arm = s.arm := rfl
@[simp] theorem State.setDivert_plate (x : List DivertEntry) : (s.setDivert x).plate = s.plate := rfl
@[simp] theorem State.setDivert_events (x : List DivertEntry) : (s.setDivert x).events = s.events := rfl
@[simp] theorem State.setDivert_pins (x : List DivertEntry) : (s.setDivert x).pins = s.pins := rfl
@[simp] theorem State.setDivert_pending (x : List DivertEntry) : (s.setDivert x).pending = s.pending := rfl

@[simp] theorem State.setStaging_start (x : Staging) : (s.setStaging x).start = s.start := rfl
@[simp] theorem State.setStaging_bus (x : Staging) : (s.setStaging x).bus = s.bus := rfl
@[simp] theorem State.setStaging_claim (x : Staging) : (s.setStaging x).claim = s.claim := rfl
@[simp] theorem State.setStaging_job (x : Staging) : (s.setStaging x).job = s.job := rfl
@[simp] theorem State.setStaging_map (x : Staging) : (s.setStaging x).map = s.map := rfl
@[simp] theorem State.setStaging_planner (x : Staging) : (s.setStaging x).planner = s.planner := rfl
@[simp] theorem State.setStaging_travel (x : Staging) : (s.setStaging x).travel = s.travel := rfl
@[simp] theorem State.setStaging_divert (x : Staging) : (s.setStaging x).divert = s.divert := rfl
@[simp] theorem State.setStaging_staging (x : Staging) : (s.setStaging x).staging = x := rfl
@[simp] theorem State.setStaging_arm (x : Staging) : (s.setStaging x).arm = s.arm := rfl
@[simp] theorem State.setStaging_plate (x : Staging) : (s.setStaging x).plate = s.plate := rfl
@[simp] theorem State.setStaging_events (x : Staging) : (s.setStaging x).events = s.events := rfl
@[simp] theorem State.setStaging_pins (x : Staging) : (s.setStaging x).pins = s.pins := rfl
@[simp] theorem State.setStaging_pending (x : Staging) : (s.setStaging x).pending = s.pending := rfl

@[simp] theorem State.setArm_start (x : ArmPort) : (s.setArm x).start = s.start := rfl
@[simp] theorem State.setArm_bus (x : ArmPort) : (s.setArm x).bus = s.bus := rfl
@[simp] theorem State.setArm_claim (x : ArmPort) : (s.setArm x).claim = s.claim := rfl
@[simp] theorem State.setArm_job (x : ArmPort) : (s.setArm x).job = s.job := rfl
@[simp] theorem State.setArm_map (x : ArmPort) : (s.setArm x).map = s.map := rfl
@[simp] theorem State.setArm_planner (x : ArmPort) : (s.setArm x).planner = s.planner := rfl
@[simp] theorem State.setArm_travel (x : ArmPort) : (s.setArm x).travel = s.travel := rfl
@[simp] theorem State.setArm_divert (x : ArmPort) : (s.setArm x).divert = s.divert := rfl
@[simp] theorem State.setArm_staging (x : ArmPort) : (s.setArm x).staging = s.staging := rfl
@[simp] theorem State.setArm_arm (x : ArmPort) : (s.setArm x).arm = x := rfl
@[simp] theorem State.setArm_plate (x : ArmPort) : (s.setArm x).plate = s.plate := rfl
@[simp] theorem State.setArm_events (x : ArmPort) : (s.setArm x).events = s.events := rfl
@[simp] theorem State.setArm_pins (x : ArmPort) : (s.setArm x).pins = s.pins := rfl
@[simp] theorem State.setArm_pending (x : ArmPort) : (s.setArm x).pending = s.pending := rfl

@[simp] theorem State.setPlate_start (x : Plate) : (s.setPlate x).start = s.start := rfl
@[simp] theorem State.setPlate_bus (x : Plate) : (s.setPlate x).bus = s.bus := rfl
@[simp] theorem State.setPlate_claim (x : Plate) : (s.setPlate x).claim = s.claim := rfl
@[simp] theorem State.setPlate_job (x : Plate) : (s.setPlate x).job = s.job := rfl
@[simp] theorem State.setPlate_map (x : Plate) : (s.setPlate x).map = s.map := rfl
@[simp] theorem State.setPlate_planner (x : Plate) : (s.setPlate x).planner = s.planner := rfl
@[simp] theorem State.setPlate_travel (x : Plate) : (s.setPlate x).travel = s.travel := rfl
@[simp] theorem State.setPlate_divert (x : Plate) : (s.setPlate x).divert = s.divert := rfl
@[simp] theorem State.setPlate_staging (x : Plate) : (s.setPlate x).staging = s.staging := rfl
@[simp] theorem State.setPlate_arm (x : Plate) : (s.setPlate x).arm = s.arm := rfl
@[simp] theorem State.setPlate_plate (x : Plate) : (s.setPlate x).plate = x := rfl
@[simp] theorem State.setPlate_events (x : Plate) : (s.setPlate x).events = s.events := rfl
@[simp] theorem State.setPlate_pins (x : Plate) : (s.setPlate x).pins = s.pins := rfl
@[simp] theorem State.setPlate_pending (x : Plate) : (s.setPlate x).pending = s.pending := rfl

@[simp] theorem State.setEvents_start (x : EventUnit) : (s.setEvents x).start = s.start := rfl
@[simp] theorem State.setEvents_bus (x : EventUnit) : (s.setEvents x).bus = s.bus := rfl
@[simp] theorem State.setEvents_claim (x : EventUnit) : (s.setEvents x).claim = s.claim := rfl
@[simp] theorem State.setEvents_job (x : EventUnit) : (s.setEvents x).job = s.job := rfl
@[simp] theorem State.setEvents_map (x : EventUnit) : (s.setEvents x).map = s.map := rfl
@[simp] theorem State.setEvents_planner (x : EventUnit) : (s.setEvents x).planner = s.planner := rfl
@[simp] theorem State.setEvents_travel (x : EventUnit) : (s.setEvents x).travel = s.travel := rfl
@[simp] theorem State.setEvents_divert (x : EventUnit) : (s.setEvents x).divert = s.divert := rfl
@[simp] theorem State.setEvents_staging (x : EventUnit) : (s.setEvents x).staging = s.staging := rfl
@[simp] theorem State.setEvents_arm (x : EventUnit) : (s.setEvents x).arm = s.arm := rfl
@[simp] theorem State.setEvents_plate (x : EventUnit) : (s.setEvents x).plate = s.plate := rfl
@[simp] theorem State.setEvents_events (x : EventUnit) : (s.setEvents x).events = x := rfl
@[simp] theorem State.setEvents_pins (x : EventUnit) : (s.setEvents x).pins = s.pins := rfl
@[simp] theorem State.setEvents_pending (x : EventUnit) : (s.setEvents x).pending = s.pending := rfl

@[simp] theorem State.setPins_start (x : Pins) : (s.setPins x).start = s.start := rfl
@[simp] theorem State.setPins_bus (x : Pins) : (s.setPins x).bus = s.bus := rfl
@[simp] theorem State.setPins_claim (x : Pins) : (s.setPins x).claim = s.claim := rfl
@[simp] theorem State.setPins_job (x : Pins) : (s.setPins x).job = s.job := rfl
@[simp] theorem State.setPins_map (x : Pins) : (s.setPins x).map = s.map := rfl
@[simp] theorem State.setPins_planner (x : Pins) : (s.setPins x).planner = s.planner := rfl
@[simp] theorem State.setPins_travel (x : Pins) : (s.setPins x).travel = s.travel := rfl
@[simp] theorem State.setPins_divert (x : Pins) : (s.setPins x).divert = s.divert := rfl
@[simp] theorem State.setPins_staging (x : Pins) : (s.setPins x).staging = s.staging := rfl
@[simp] theorem State.setPins_arm (x : Pins) : (s.setPins x).arm = s.arm := rfl
@[simp] theorem State.setPins_plate (x : Pins) : (s.setPins x).plate = s.plate := rfl
@[simp] theorem State.setPins_events (x : Pins) : (s.setPins x).events = s.events := rfl
@[simp] theorem State.setPins_pins (x : Pins) : (s.setPins x).pins = x := rfl
@[simp] theorem State.setPins_pending (x : Pins) : (s.setPins x).pending = s.pending := rfl

@[simp] theorem State.setPending_start (x : List Instr) : (s.setPending x).start = s.start := rfl
@[simp] theorem State.setPending_bus (x : List Instr) : (s.setPending x).bus = s.bus := rfl
@[simp] theorem State.setPending_claim (x : List Instr) : (s.setPending x).claim = s.claim := rfl
@[simp] theorem State.setPending_job (x : List Instr) : (s.setPending x).job = s.job := rfl
@[simp] theorem State.setPending_map (x : List Instr) : (s.setPending x).map = s.map := rfl
@[simp] theorem State.setPending_planner (x : List Instr) : (s.setPending x).planner = s.planner := rfl
@[simp] theorem State.setPending_travel (x : List Instr) : (s.setPending x).travel = s.travel := rfl
@[simp] theorem State.setPending_divert (x : List Instr) : (s.setPending x).divert = s.divert := rfl
@[simp] theorem State.setPending_staging (x : List Instr) : (s.setPending x).staging = s.staging := rfl
@[simp] theorem State.setPending_arm (x : List Instr) : (s.setPending x).arm = s.arm := rfl
@[simp] theorem State.setPending_plate (x : List Instr) : (s.setPending x).plate = s.plate := rfl
@[simp] theorem State.setPending_events (x : List Instr) : (s.setPending x).events = s.events := rfl
@[simp] theorem State.setPending_pins (x : List Instr) : (s.setPending x).pins = s.pins := rfl
@[simp] theorem State.setPending_pending (x : List Instr) : (s.setPending x).pending = x := rfl

@[simp] theorem goes_eq_next (s t : State) : goes s = .next t ↔ s = t := by simp [goes]

end Sys2Proof.Machine
end

