-- ==== Sys2Proof/Laws/Frame.lean ====
section
/-! SUPPORT. The frame of each shared operation, in the order of Machine/: the blocks of the state it leaves as they were, so that
a proof about another block never unfolds it. -/

namespace Sys2Proof.Machine

/-- A fold whose step keeps a reading of the state keeps it. -/
theorem foldl_keeps {α β : Type} (f : State → α → State) (g : State → β) (h : ∀ s x, g (f s x) = g s) (xs : List α) (s : State) :
    g (xs.foldl f s) = g s := by
  induction xs generalizing s with
  | nil => rfl
  | cons x xs ih => simp [ih, h]

/-- The same for a test made for every entry of the schedule. -/
theorem forEntries_keeps {β : Type} (g : State → β) (f : State → CaseId → State) (h : ∀ s x, g (f s x) = g s) (s : State) :
    g (s.forEntries f) = g s := foldl_keeps f g h _ s

@[simp] theorem State.offerReports_frame (s : State) :
    (s.offerReports).start = s.start ∧ (s.offerReports).map = s.map ∧ (s.offerReports).planner = s.planner ∧
      (s.offerReports).travel = s.travel ∧ (s.offerReports).divert = s.divert ∧ (s.offerReports).staging = s.staging ∧
      (s.offerReports).arm = s.arm ∧ (s.offerReports).plate = s.plate ∧ (s.offerReports).events = s.events ∧
      (s.offerReports).pins = s.pins ∧ (s.offerReports).pending = s.pending := by
  unfold State.offerReports
  simp

@[simp] theorem State.releaseCase_frame (s : State) (c : CaseId) (r : ReleaseReason) :
    (s.releaseCase c r).start = s.start ∧ (s.releaseCase c r).job = s.job ∧ (s.releaseCase c r).map = s.map ∧
      (s.releaseCase c r).planner = s.planner ∧ (s.releaseCase c r).travel = s.travel ∧ (s.releaseCase c r).divert = s.divert ∧
      (s.releaseCase c r).staging = s.staging ∧ (s.releaseCase c r).arm = s.arm ∧ (s.releaseCase c r).plate = s.plate ∧
      (s.releaseCase c r).events = s.events ∧ (s.releaseCase c r).pins = s.pins ∧ (s.releaseCase c r).pending = s.pending := by
  unfold State.releaseCase
  (repeat' split) <;> simp

@[simp] theorem State.releaseCaseOpt_frame (s : State) (c : Option CaseId) (r : ReleaseReason) :
    (s.releaseCase? c r).start = s.start ∧ (s.releaseCase? c r).job = s.job ∧ (s.releaseCase? c r).map = s.map ∧
      (s.releaseCase? c r).planner = s.planner ∧ (s.releaseCase? c r).travel = s.travel ∧ (s.releaseCase? c r).divert = s.divert ∧
      (s.releaseCase? c r).staging = s.staging ∧ (s.releaseCase? c r).arm = s.arm ∧ (s.releaseCase? c r).plate = s.plate ∧
      (s.releaseCase? c r).events = s.events ∧ (s.releaseCase? c r).pins = s.pins ∧ (s.releaseCase? c r).pending = s.pending := by
  unfold State.releaseCase?
  (repeat' split) <;> simp

@[simp] theorem State.releaseJobForm_frame (s : State) (j : JobId) :
    (s.releaseJobForm j).start = s.start ∧ (s.releaseJobForm j).claim = s.claim ∧ (s.releaseJobForm j).job = s.job ∧
      (s.releaseJobForm j).map = s.map ∧ (s.releaseJobForm j).planner = s.planner ∧ (s.releaseJobForm j).travel = s.travel ∧
      (s.releaseJobForm j).divert = s.divert ∧ (s.releaseJobForm j).staging = s.staging ∧ (s.releaseJobForm j).arm = s.arm ∧
      (s.releaseJobForm j).plate = s.plate ∧ (s.releaseJobForm j).events = s.events ∧ (s.releaseJobForm j).pins = s.pins ∧
      (s.releaseJobForm j).pending = s.pending := by
  unfold State.releaseJobForm
  (repeat' split) <;> simp

@[simp] theorem State.queueStatusNow_frame (s : State) :
    (s.queueStatusNow).start = s.start ∧ (s.queueStatusNow).claim = s.claim ∧ (s.queueStatusNow).job = s.job ∧
      (s.queueStatusNow).map = s.map ∧ (s.queueStatusNow).planner = s.planner ∧ (s.queueStatusNow).travel = s.travel ∧
      (s.queueStatusNow).divert = s.divert ∧ (s.queueStatusNow).staging = s.staging ∧ (s.queueStatusNow).arm = s.arm ∧
      (s.queueStatusNow).plate = s.plate ∧ (s.queueStatusNow).events = s.events ∧ (s.queueStatusNow).pins = s.pins ∧
      (s.queueStatusNow).pending = s.pending := by
  unfold State.queueStatusNow
  simp

@[simp] theorem State.countEvent_frame (s : State) (e : EventKind) :
    (s.countEvent e).start = s.start ∧ (s.countEvent e).bus = s.bus ∧ (s.countEvent e).claim = s.claim ∧ (s.countEvent e).job = s.job ∧
      (s.countEvent e).map = s.map ∧ (s.countEvent e).planner = s.planner ∧ (s.countEvent e).travel = s.travel ∧
      (s.countEvent e).divert = s.divert ∧ (s.countEvent e).staging = s.staging ∧ (s.countEvent e).arm = s.arm ∧
      (s.countEvent e).plate = s.plate ∧ (s.countEvent e).pins = s.pins ∧ (s.countEvent e).pending = s.pending := by
  unfold State.countEvent
  simp

@[simp] theorem State.latchEvent_frame (s : State) (e : EventKind) :
    (s.latchEvent e).start = s.start ∧ (s.latchEvent e).bus = s.bus ∧ (s.latchEvent e).claim = s.claim ∧ (s.latchEvent e).job = s.job ∧
      (s.latchEvent e).map = s.map ∧ (s.latchEvent e).planner = s.planner ∧ (s.latchEvent e).travel = s.travel ∧
      (s.latchEvent e).divert = s.divert ∧ (s.latchEvent e).staging = s.staging ∧ (s.latchEvent e).arm = s.arm ∧
      (s.latchEvent e).plate = s.plate ∧ (s.latchEvent e).pins = s.pins ∧ (s.latchEvent e).pending = s.pending := by
  unfold State.latchEvent
  simp

@[simp] theorem State.promptStatus_frame (s : State) :
    (s.promptStatus).start = s.start ∧ (s.promptStatus).claim = s.claim ∧ (s.promptStatus).job = s.job ∧ (s.promptStatus).map = s.map ∧
      (s.promptStatus).planner = s.planner ∧ (s.promptStatus).travel = s.travel ∧ (s.promptStatus).divert = s.divert ∧
      (s.promptStatus).staging = s.staging ∧ (s.promptStatus).arm = s.arm ∧ (s.promptStatus).plate = s.plate ∧
      (s.promptStatus).pins = s.pins ∧ (s.promptStatus).pending = s.pending := by
  unfold State.promptStatus
  (repeat' split) <;> simp

@[simp] theorem State.raiseAs_frame (s : State) (cls : EventClass) (e : EventKind) :
    (s.raiseAs cls e).start = s.start ∧ (s.raiseAs cls e).claim = s.claim ∧ (s.raiseAs cls e).job = s.job ∧ (s.raiseAs cls e).map = s.map ∧
      (s.raiseAs cls e).planner = s.planner ∧ (s.raiseAs cls e).travel = s.travel ∧ (s.raiseAs cls e).divert = s.divert ∧
      (s.raiseAs cls e).staging = s.staging ∧ (s.raiseAs cls e).arm = s.arm ∧ (s.raiseAs cls e).plate = s.plate ∧
      (s.raiseAs cls e).pins = s.pins ∧ (s.raiseAs cls e).pending = s.pending := by
  unfold State.raiseAs
  (repeat' split) <;> simp

@[simp] theorem State.raise_frame (s : State) (e : EventKind) :
    (s.raise e).start = s.start ∧ (s.raise e).claim = s.claim ∧ (s.raise e).job = s.job ∧ (s.raise e).map = s.map ∧
      (s.raise e).planner = s.planner ∧ (s.raise e).travel = s.travel ∧ (s.raise e).divert = s.divert ∧ (s.raise e).staging = s.staging ∧
      (s.raise e).arm = s.arm ∧ (s.raise e).plate = s.plate ∧ (s.raise e).pins = s.pins ∧ (s.raise e).pending = s.pending := by
  unfold State.raise
  (repeat' split) <;> simp

@[simp] theorem State.updSighting_frame (s : State) (c : CaseId) (f : Sighting → Sighting) :
    (s.updSighting c f).start = s.start ∧ (s.updSighting c f).bus = s.bus ∧ (s.updSighting c f).job = s.job ∧
      (s.updSighting c f).map = s.map ∧ (s.updSighting c f).planner = s.planner ∧ (s.updSighting c f).travel = s.travel ∧
      (s.updSighting c f).divert = s.divert ∧ (s.updSighting c f).staging = s.staging ∧ (s.updSighting c f).arm = s.arm ∧
      (s.updSighting c f).plate = s.plate ∧ (s.updSighting c f).events = s.events ∧ (s.updSighting c f).pins = s.pins ∧
      (s.updSighting c f).pending = s.pending := by
  unfold State.updSighting
  simp

@[simp] theorem State.dropSighting_frame (s : State) (c : CaseId) :
    (s.dropSighting c).start = s.start ∧ (s.dropSighting c).bus = s.bus ∧ (s.dropSighting c).job = s.job ∧ (s.dropSighting c).map = s.map ∧
      (s.dropSighting c).planner = s.planner ∧ (s.dropSighting c).travel = s.travel ∧ (s.dropSighting c).divert = s.divert ∧
      (s.dropSighting c).staging = s.staging ∧ (s.dropSighting c).arm = s.arm ∧ (s.dropSighting c).plate = s.plate ∧
      (s.dropSighting c).events = s.events ∧ (s.dropSighting c).pins = s.pins ∧ (s.dropSighting c).pending = s.pending := by
  unfold State.dropSighting
  simp

@[simp] theorem State.setFlag_frame (s : State) :
    (s.setFlag).start = s.start ∧ (s.setFlag).bus = s.bus ∧ (s.setFlag).claim = s.claim ∧ (s.setFlag).job = s.job ∧
      (s.setFlag).map = s.map ∧ (s.setFlag).travel = s.travel ∧ (s.setFlag).divert = s.divert ∧ (s.setFlag).staging = s.staging ∧
      (s.setFlag).arm = s.arm ∧ (s.setFlag).plate = s.plate ∧ (s.setFlag).events = s.events ∧ (s.setFlag).pins = s.pins ∧
      (s.setFlag).pending = s.pending := by
  unfold State.setFlag
  simp

@[simp] theorem State.decideClaim_frame (s : State) (c : CaseId) :
    (s.decideClaim c).start = s.start ∧ (s.decideClaim c).job = s.job ∧ (s.decideClaim c).map = s.map ∧
      (s.decideClaim c).planner = s.planner ∧ (s.decideClaim c).travel = s.travel ∧ (s.decideClaim c).divert = s.divert ∧
      (s.decideClaim c).staging = s.staging ∧ (s.decideClaim c).arm = s.arm ∧ (s.decideClaim c).plate = s.plate ∧
      (s.decideClaim c).events = s.events ∧ (s.decideClaim c).pins = s.pins ∧ (s.decideClaim c).pending = s.pending := by
  unfold State.decideClaim
  (repeat' split) <;> simp

@[simp] theorem State.reexamine_frame (s : State) :
    (s.reexamine).start = s.start ∧ (s.reexamine).job = s.job ∧ (s.reexamine).map = s.map ∧ (s.reexamine).planner = s.planner ∧
      (s.reexamine).travel = s.travel ∧ (s.reexamine).divert = s.divert ∧ (s.reexamine).staging = s.staging ∧ (s.reexamine).arm = s.arm ∧
      (s.reexamine).plate = s.plate ∧ (s.reexamine).events = s.events ∧ (s.reexamine).pins = s.pins ∧
      (s.reexamine).pending = s.pending := by
  unfold State.reexamine
  refine ⟨?_, ?_, ?_, ?_, ?_, ?_, ?_, ?_, ?_, ?_, ?_, ?_⟩ <;> exact foldl_keeps _ _ (fun s c => by simp) _ _

@[simp] theorem State.rebuildInterest_frame (s : State) :
    (s.rebuildInterest).start = s.start ∧ (s.rebuildInterest).bus = s.bus ∧ (s.rebuildInterest).job = s.job ∧
      (s.rebuildInterest).map = s.map ∧ (s.rebuildInterest).planner = s.planner ∧ (s.rebuildInterest).travel = s.travel ∧
      (s.rebuildInterest).divert = s.divert ∧ (s.rebuildInterest).staging = s.staging ∧ (s.rebuildInterest).arm = s.arm ∧
      (s.rebuildInterest).plate = s.plate ∧ (s.rebuildInterest).events = s.events ∧ (s.rebuildInterest).pins = s.pins ∧
      (s.rebuildInterest).pending = s.pending := by
  unfold State.rebuildInterest
  simp

@[simp] theorem State.countsChanged_frame (s : State) :
    (s.countsChanged).start = s.start ∧ (s.countsChanged).job = s.job ∧ (s.countsChanged).map = s.map ∧
      (s.countsChanged).travel = s.travel ∧ (s.countsChanged).divert = s.divert ∧ (s.countsChanged).staging = s.staging ∧
      (s.countsChanged).arm = s.arm ∧ (s.countsChanged).plate = s.plate ∧ (s.countsChanged).events = s.events ∧
      (s.countsChanged).pins = s.pins ∧ (s.countsChanged).pending = s.pending := by
  unfold State.countsChanged
  simp

@[simp] theorem State.laneFell_frame (s : State) :
    (s.laneFell).start = s.start ∧ (s.laneFell).job = s.job ∧ (s.laneFell).map = s.map ∧ (s.laneFell).planner = s.planner ∧
      (s.laneFell).travel = s.travel ∧ (s.laneFell).divert = s.divert ∧ (s.laneFell).staging = s.staging ∧ (s.laneFell).arm = s.arm ∧
      (s.laneFell).plate = s.plate ∧ (s.laneFell).events = s.events ∧ (s.laneFell).pins = s.pins ∧ (s.laneFell).pending = s.pending := by
  unfold State.laneFell
  simp

@[simp] theorem State.updLine_frame (s : State) (n : Nat) (f : LineRec → LineRec) :
    (s.updLine n f).start = s.start ∧ (s.updLine n f).bus = s.bus ∧ (s.updLine n f).claim = s.claim ∧ (s.updLine n f).map = s.map ∧
      (s.updLine n f).planner = s.planner ∧ (s.updLine n f).travel = s.travel ∧ (s.updLine n f).divert = s.divert ∧
      (s.updLine n f).staging = s.staging ∧ (s.updLine n f).arm = s.arm ∧ (s.updLine n f).plate = s.plate ∧
      (s.updLine n f).events = s.events ∧ (s.updLine n f).pins = s.pins ∧ (s.updLine n f).pending = s.pending := by
  unfold State.updLine
  simp

@[simp] theorem State.decreaseClaimed_frame (s : State) (l : LineRef) :
    (s.decreaseClaimed l).start = s.start ∧ (s.decreaseClaimed l).map = s.map ∧ (s.decreaseClaimed l).travel = s.travel ∧
      (s.decreaseClaimed l).divert = s.divert ∧ (s.decreaseClaimed l).staging = s.staging ∧ (s.decreaseClaimed l).arm = s.arm ∧
      (s.decreaseClaimed l).plate = s.plate ∧ (s.decreaseClaimed l).events = s.events ∧ (s.decreaseClaimed l).pins = s.pins ∧
      (s.decreaseClaimed l).pending = s.pending := by
  unfold State.decreaseClaimed
  (repeat' split) <;> simp

@[simp] theorem State.withdrawClaim_frame (s : State) (c : CaseId) :
    (s.withdrawClaim c).start = s.start ∧ (s.withdrawClaim c).job = s.job ∧ (s.withdrawClaim c).map = s.map ∧
      (s.withdrawClaim c).planner = s.planner ∧ (s.withdrawClaim c).travel = s.travel ∧ (s.withdrawClaim c).divert = s.divert ∧
      (s.withdrawClaim c).staging = s.staging ∧ (s.withdrawClaim c).arm = s.arm ∧ (s.withdrawClaim c).plate = s.plate ∧
      (s.withdrawClaim c).events = s.events ∧ (s.withdrawClaim c).pins = s.pins ∧ (s.withdrawClaim c).pending = s.pending := by
  unfold State.withdrawClaim
  (repeat' split) <;> simp

@[simp] theorem State.withdrawClaims_frame (s : State) :
    (s.withdrawClaims).start = s.start ∧ (s.withdrawClaims).job = s.job ∧ (s.withdrawClaims).map = s.map ∧
      (s.withdrawClaims).planner = s.planner ∧ (s.withdrawClaims).travel = s.travel ∧ (s.withdrawClaims).divert = s.divert ∧
      (s.withdrawClaims).staging = s.staging ∧ (s.withdrawClaims).arm = s.arm ∧ (s.withdrawClaims).plate = s.plate ∧
      (s.withdrawClaims).events = s.events ∧ (s.withdrawClaims).pins = s.pins ∧ (s.withdrawClaims).pending = s.pending := by
  unfold State.withdrawClaims
  simp

@[simp] theorem State.cancelOne_frame (s : State) (c : CaseId) :
    (s.cancelOne c).start = s.start ∧ (s.cancelOne c).map = s.map ∧ (s.cancelOne c).travel = s.travel ∧
      (s.cancelOne c).staging = s.staging ∧ (s.cancelOne c).arm = s.arm ∧ (s.cancelOne c).plate = s.plate ∧
      (s.cancelOne c).events = s.events ∧ (s.cancelOne c).pins = s.pins ∧ (s.cancelOne c).pending = s.pending := by
  unfold State.cancelOne
  (repeat' split) <;> simp

@[simp] theorem State.cancelClaims_frame (s : State) :
    (s.cancelClaims).start = s.start ∧ (s.cancelClaims).map = s.map ∧ (s.cancelClaims).travel = s.travel ∧
      (s.cancelClaims).staging = s.staging ∧ (s.cancelClaims).arm = s.arm ∧ (s.cancelClaims).plate = s.plate ∧
      (s.cancelClaims).events = s.events ∧ (s.cancelClaims).pins = s.pins ∧ (s.cancelClaims).pending = s.pending := by
  unfold State.cancelClaims
  refine ⟨?_, ?_, ?_, ?_, ?_, ?_, ?_, ?_, ?_⟩ <;> exact (foldl_keeps _ _ (fun s c => by simp) _ _).trans (by simp)

@[simp] theorem State.claimReturned_frame (s : State) (c : CaseId) (lap : Byte) :
    (s.claimReturned c lap).start = s.start ∧ (s.claimReturned c lap).job = s.job ∧ (s.claimReturned c lap).map = s.map ∧
      (s.claimReturned c lap).planner = s.planner ∧ (s.claimReturned c lap).travel = s.travel ∧ (s.claimReturned c lap).divert = s.divert ∧
      (s.claimReturned c lap).staging = s.staging ∧ (s.claimReturned c lap).arm = s.arm ∧ (s.claimReturned c lap).plate = s.plate ∧
      (s.claimReturned c lap).events = s.events ∧ (s.claimReturned c lap).pins = s.pins ∧ (s.claimReturned c lap).pending = s.pending := by
  unfold State.claimReturned
  (repeat' split) <;> simp

@[simp] theorem State.claimLost_frame (s : State) (c : CaseId) (lap : Byte) :
    (s.claimLost c lap).start = s.start ∧ (s.claimLost c lap).job = s.job ∧ (s.claimLost c lap).map = s.map ∧
      (s.claimLost c lap).planner = s.planner ∧ (s.claimLost c lap).travel = s.travel ∧ (s.claimLost c lap).divert = s.divert ∧
      (s.claimLost c lap).staging = s.staging ∧ (s.claimLost c lap).arm = s.arm ∧ (s.claimLost c lap).plate = s.plate ∧
      (s.claimLost c lap).events = s.events ∧ (s.claimLost c lap).pins = s.pins ∧ (s.claimLost c lap).pending = s.pending := by
  unfold State.claimLost
  (repeat' split) <;> simp

@[simp] theorem State.passOne_frame (s : State) (c : CaseId) :
    (s.passOne c).start = s.start ∧ (s.passOne c).job = s.job ∧ (s.passOne c).map = s.map ∧ (s.passOne c).planner = s.planner ∧
      (s.passOne c).travel = s.travel ∧ (s.passOne c).divert = s.divert ∧ (s.passOne c).staging = s.staging ∧ (s.passOne c).arm = s.arm ∧
      (s.passOne c).plate = s.plate ∧ (s.passOne c).events = s.events ∧ (s.passOne c).pins = s.pins ∧
      (s.passOne c).pending = s.pending := by
  unfold State.passOne
  (repeat' split) <;> simp

@[simp] theorem State.passSightings_frame (s : State) :
    (s.passSightings).start = s.start ∧ (s.passSightings).job = s.job ∧ (s.passSightings).map = s.map ∧
      (s.passSightings).planner = s.planner ∧ (s.passSightings).travel = s.travel ∧ (s.passSightings).divert = s.divert ∧
      (s.passSightings).staging = s.staging ∧ (s.passSightings).arm = s.arm ∧ (s.passSightings).plate = s.plate ∧
      (s.passSightings).events = s.events ∧ (s.passSightings).pins = s.pins ∧ (s.passSightings).pending = s.pending := by
  unfold State.passSightings
  refine ⟨?_, ?_, ?_, ?_, ?_, ?_, ?_, ?_, ?_, ?_, ?_, ?_⟩ <;> exact foldl_keeps _ _ (fun s c => by simp) _ _

@[simp] theorem State.plannerDrop_frame (s : State) :
    (s.plannerDrop).start = s.start ∧ (s.plannerDrop).bus = s.bus ∧ (s.plannerDrop).claim = s.claim ∧ (s.plannerDrop).job = s.job ∧
      (s.plannerDrop).map = s.map ∧ (s.plannerDrop).travel = s.travel ∧ (s.plannerDrop).divert = s.divert ∧
      (s.plannerDrop).staging = s.staging ∧ (s.plannerDrop).arm = s.arm ∧ (s.plannerDrop).plate = s.plate ∧
      (s.plannerDrop).events = s.events ∧ (s.plannerDrop).pins = s.pins ∧ (s.plannerDrop).pending = s.pending := by
  unfold State.plannerDrop
  simp

@[simp] theorem State.plannerCommit_frame (s : State) (c : CaseId) :
    (s.plannerCommit c).start = s.start ∧ (s.plannerCommit c).bus = s.bus ∧ (s.plannerCommit c).claim = s.claim ∧
      (s.plannerCommit c).job = s.job ∧ (s.plannerCommit c).map = s.map ∧ (s.plannerCommit c).travel = s.travel ∧
      (s.plannerCommit c).divert = s.divert ∧ (s.plannerCommit c).staging = s.staging ∧ (s.plannerCommit c).arm = s.arm ∧
      (s.plannerCommit c).plate = s.plate ∧ (s.plannerCommit c).events = s.events ∧ (s.plannerCommit c).pins = s.pins ∧
      (s.plannerCommit c).pending = s.pending := by
  unfold State.plannerCommit
  simp

@[simp] theorem State.addHold_frame (s : State) (r : HoldReason) :
    (s.addHold r).start = s.start ∧ (s.addHold r).bus = s.bus ∧ (s.addHold r).claim = s.claim ∧ (s.addHold r).job = s.job ∧
      (s.addHold r).map = s.map ∧ (s.addHold r).travel = s.travel ∧ (s.addHold r).divert = s.divert ∧ (s.addHold r).staging = s.staging ∧
      (s.addHold r).arm = s.arm ∧ (s.addHold r).plate = s.plate ∧ (s.addHold r).events = s.events ∧ (s.addHold r).pins = s.pins ∧
      (s.addHold r).pending = s.pending := by
  unfold State.addHold
  (repeat' split) <;> simp

@[simp] theorem State.removeHold_frame (s : State) (r : HoldReason) :
    (s.removeHold r).start = s.start ∧ (s.removeHold r).bus = s.bus ∧ (s.removeHold r).claim = s.claim ∧ (s.removeHold r).job = s.job ∧
      (s.removeHold r).map = s.map ∧ (s.removeHold r).travel = s.travel ∧ (s.removeHold r).divert = s.divert ∧
      (s.removeHold r).staging = s.staging ∧ (s.removeHold r).arm = s.arm ∧ (s.removeHold r).plate = s.plate ∧
      (s.removeHold r).events = s.events ∧ (s.removeHold r).pins = s.pins ∧ (s.removeHold r).pending = s.pending := by
  unfold State.removeHold
  (repeat' split) <;> simp

@[simp] theorem State.jobChanged_frame (s : State) :
    (s.jobChanged).start = s.start ∧ (s.jobChanged).bus = s.bus ∧ (s.jobChanged).job = s.job ∧ (s.jobChanged).map = s.map ∧
      (s.jobChanged).travel = s.travel ∧ (s.jobChanged).divert = s.divert ∧ (s.jobChanged).staging = s.staging ∧
      (s.jobChanged).arm = s.arm ∧ (s.jobChanged).plate = s.plate ∧ (s.jobChanged).events = s.events ∧ (s.jobChanged).pins = s.pins ∧
      (s.jobChanged).pending = s.pending := by
  unfold State.jobChanged
  simp

@[simp] theorem State.updRecord_frame (s : State) (f : JobRecord → JobRecord) :
    (s.updRecord f).start = s.start ∧ (s.updRecord f).bus = s.bus ∧ (s.updRecord f).claim = s.claim ∧ (s.updRecord f).map = s.map ∧
      (s.updRecord f).planner = s.planner ∧ (s.updRecord f).travel = s.travel ∧ (s.updRecord f).divert = s.divert ∧
      (s.updRecord f).staging = s.staging ∧ (s.updRecord f).arm = s.arm ∧ (s.updRecord f).plate = s.plate ∧
      (s.updRecord f).events = s.events ∧ (s.updRecord f).pins = s.pins ∧ (s.updRecord f).pending = s.pending := by
  unfold State.updRecord
  simp

@[simp] theorem State.enterClosing_frame (s : State) (o : JobOutcome) :
    (s.enterClosing o).start = s.start ∧ (s.enterClosing o).map = s.map ∧ (s.enterClosing o).travel = s.travel ∧
      (s.enterClosing o).staging = s.staging ∧ (s.enterClosing o).arm = s.arm ∧ (s.enterClosing o).plate = s.plate ∧
      (s.enterClosing o).events = s.events ∧ (s.enterClosing o).pins = s.pins ∧ (s.enterClosing o).pending = s.pending := by
  unfold State.enterClosing
  simp

@[simp] theorem State.completionTest_frame (s : State) :
    (s.completionTest).start = s.start ∧ (s.completionTest).map = s.map ∧ (s.completionTest).travel = s.travel ∧
      (s.completionTest).staging = s.staging ∧ (s.completionTest).arm = s.arm ∧ (s.completionTest).plate = s.plate ∧
      (s.completionTest).events = s.events ∧ (s.completionTest).pins = s.pins ∧ (s.completionTest).pending = s.pending := by
  unfold State.completionTest
  dsimp only
  (repeat' split) <;> simp

@[simp] theorem State.countCommit_frame (s : State) (n : Nat) :
    (s.countCommit n).start = s.start ∧ (s.countCommit n).map = s.map ∧ (s.countCommit n).travel = s.travel ∧
      (s.countCommit n).staging = s.staging ∧ (s.countCommit n).arm = s.arm ∧ (s.countCommit n).plate = s.plate ∧
      (s.countCommit n).events = s.events ∧ (s.countCommit n).pins = s.pins ∧ (s.countCommit n).pending = s.pending := by
  unfold State.countCommit
  (repeat' split) <;> simp

@[simp] theorem State.offCentreTest_frame (s : State) :
    (s.offCentreTest).start = s.start ∧ (s.offCentreTest).claim = s.claim ∧ (s.offCentreTest).job = s.job ∧ (s.offCentreTest).map = s.map ∧
      (s.offCentreTest).planner = s.planner ∧ (s.offCentreTest).travel = s.travel ∧ (s.offCentreTest).divert = s.divert ∧
      (s.offCentreTest).staging = s.staging ∧ (s.offCentreTest).arm = s.arm ∧ (s.offCentreTest).plate = s.plate ∧
      (s.offCentreTest).pins = s.pins ∧ (s.offCentreTest).pending = s.pending := by
  unfold State.offCentreTest
  (repeat' split) <;> simp

@[simp] theorem State.commitPlanned_frame (s : State) (c : CaseId) :
    (s.commitPlanned c).start = s.start ∧ (s.commitPlanned c).travel = s.travel ∧ (s.commitPlanned c).staging = s.staging ∧
      (s.commitPlanned c).arm = s.arm ∧ (s.commitPlanned c).plate = s.plate ∧ (s.commitPlanned c).pins = s.pins ∧
      (s.commitPlanned c).pending = s.pending := by
  unfold State.commitPlanned
  (repeat' split) <;> simp

@[simp] theorem State.commitMeasured_frame (s : State) (c : CaseId) (m : Nat) :
    (s.commitMeasured c m).start = s.start ∧ (s.commitMeasured c m).travel = s.travel ∧ (s.commitMeasured c m).staging = s.staging ∧
      (s.commitMeasured c m).arm = s.arm ∧ (s.commitMeasured c m).plate = s.plate ∧ (s.commitMeasured c m).pins = s.pins ∧
      (s.commitMeasured c m).pending = s.pending := by
  unfold State.commitMeasured
  (repeat' split) <;> simp

@[simp] theorem State.rollback_frame (s : State) (c : CaseId) :
    (s.rollback c).start = s.start ∧ (s.rollback c).bus = s.bus ∧ (s.rollback c).claim = s.claim ∧ (s.rollback c).job = s.job ∧
      (s.rollback c).travel = s.travel ∧ (s.rollback c).divert = s.divert ∧ (s.rollback c).staging = s.staging ∧
      (s.rollback c).arm = s.arm ∧ (s.rollback c).plate = s.plate ∧ (s.rollback c).events = s.events ∧ (s.rollback c).pins = s.pins ∧
      (s.rollback c).pending = s.pending := by
  unfold State.rollback
  (repeat' split) <;> simp

@[simp] theorem State.clearMap_frame (s : State) :
    (s.clearMap).start = s.start ∧ (s.clearMap).bus = s.bus ∧ (s.clearMap).claim = s.claim ∧ (s.clearMap).job = s.job ∧
      (s.clearMap).travel = s.travel ∧ (s.clearMap).divert = s.divert ∧ (s.clearMap).staging = s.staging ∧ (s.clearMap).arm = s.arm ∧
      (s.clearMap).plate = s.plate ∧ (s.clearMap).events = s.events ∧ (s.clearMap).pins = s.pins ∧ (s.clearMap).pending = s.pending := by
  unfold State.clearMap
  simp

@[simp] theorem State.reportEnd_frame (s : State) (job : JobId) (o : JobOutcome) (placed loadKg : Nat) :
    (s.reportEnd job o placed loadKg).start = s.start ∧ (s.reportEnd job o placed loadKg).map = s.map ∧
      (s.reportEnd job o placed loadKg).planner = s.planner ∧ (s.reportEnd job o placed loadKg).travel = s.travel ∧
      (s.reportEnd job o placed loadKg).divert = s.divert ∧ (s.reportEnd job o placed loadKg).staging = s.staging ∧
      (s.reportEnd job o placed loadKg).arm = s.arm ∧ (s.reportEnd job o placed loadKg).plate = s.plate ∧
      (s.reportEnd job o placed loadKg).pins = s.pins ∧ (s.reportEnd job o placed loadKg).pending = s.pending := by
  unfold State.reportEnd
  simp

@[simp] theorem State.clearJob_frame (s : State) :
    (s.clearJob).start = s.start ∧ (s.clearJob).bus = s.bus ∧ (s.clearJob).map = s.map ∧ (s.clearJob).travel = s.travel ∧
      (s.clearJob).divert = s.divert ∧ (s.clearJob).staging = s.staging ∧ (s.clearJob).arm = s.arm ∧ (s.clearJob).plate = s.plate ∧
      (s.clearJob).events = s.events ∧ (s.clearJob).pins = s.pins ∧ (s.clearJob).pending = s.pending := by
  unfold State.clearJob
  simp

@[simp] theorem State.endDrained_frame (s : State) (r : JobRecord) :
    (s.endDrained r).start = s.start ∧ (s.endDrained r).map = s.map ∧ (s.endDrained r).travel = s.travel ∧
      (s.endDrained r).divert = s.divert ∧ (s.endDrained r).staging = s.staging ∧ (s.endDrained r).arm = s.arm ∧
      (s.endDrained r).plate = s.plate ∧ (s.endDrained r).pins = s.pins ∧ (s.endDrained r).pending = s.pending := by
  unfold State.endDrained
  simp

@[simp] theorem State.drainTest_frame (s : State) :
    (s.drainTest).start = s.start ∧ (s.drainTest).map = s.map ∧ (s.drainTest).travel = s.travel ∧ (s.drainTest).divert = s.divert ∧
      (s.drainTest).staging = s.staging ∧ (s.drainTest).arm = s.arm ∧ (s.drainTest).plate = s.plate ∧ (s.drainTest).pins = s.pins ∧
      (s.drainTest).pending = s.pending := by
  unfold State.drainTest
  (repeat' split) <;> simp

@[simp] theorem State.abort_frame (s : State) (r : JobRecord) :
    (s.abort r).start = s.start ∧ (s.abort r).travel = s.travel ∧ (s.abort r).staging = s.staging ∧ (s.abort r).arm = s.arm ∧
      (s.abort r).plate = s.plate ∧ (s.abort r).pins = s.pins ∧ (s.abort r).pending = s.pending := by
  unfold State.abort
  simp

@[simp] theorem State.teardown_frame (s : State) :
    (s.teardown).start = s.start ∧ (s.teardown).bus = s.bus ∧ (s.teardown).travel = s.travel ∧ (s.teardown).divert = s.divert ∧
      (s.teardown).staging = s.staging ∧ (s.teardown).arm = s.arm ∧ (s.teardown).plate = s.plate ∧ (s.teardown).events = s.events ∧
      (s.teardown).pins = s.pins ∧ (s.teardown).pending = s.pending := by
  unfold State.teardown
  simp

@[simp] theorem State.jobPalletFall_frame (s : State) :
    (s.jobPalletFall).start = s.start ∧ (s.jobPalletFall).travel = s.travel ∧ (s.jobPalletFall).staging = s.staging ∧
      (s.jobPalletFall).arm = s.arm ∧ (s.jobPalletFall).plate = s.plate ∧ (s.jobPalletFall).pins = s.pins ∧
      (s.jobPalletFall).pending = s.pending := by
  unfold State.jobPalletFall
  (repeat' split) <;> simp

@[simp] theorem State.clearOffer_frame (s : State) :
    (s.clearOffer).start = s.start ∧ (s.clearOffer).bus = s.bus ∧ (s.clearOffer).claim = s.claim ∧ (s.clearOffer).map = s.map ∧
      (s.clearOffer).planner = s.planner ∧ (s.clearOffer).travel = s.travel ∧ (s.clearOffer).divert = s.divert ∧
      (s.clearOffer).staging = s.staging ∧ (s.clearOffer).arm = s.arm ∧ (s.clearOffer).plate = s.plate ∧ (s.clearOffer).events = s.events ∧
      (s.clearOffer).pins = s.pins ∧ (s.clearOffer).pending = s.pending := by
  unfold State.clearOffer
  simp

@[simp] theorem State.withdrawBid_frame (s : State) (f : Offer → Option Offer) :
    (s.withdrawBid f).start = s.start ∧ (s.withdrawBid f).claim = s.claim ∧ (s.withdrawBid f).map = s.map ∧
      (s.withdrawBid f).planner = s.planner ∧ (s.withdrawBid f).travel = s.travel ∧ (s.withdrawBid f).divert = s.divert ∧
      (s.withdrawBid f).staging = s.staging ∧ (s.withdrawBid f).arm = s.arm ∧ (s.withdrawBid f).plate = s.plate ∧
      (s.withdrawBid f).events = s.events ∧ (s.withdrawBid f).pins = s.pins ∧ (s.withdrawBid f).pending = s.pending := by
  unfold State.withdrawBid
  (repeat' split) <;> simp

@[simp] theorem State.adoptJob_frame (s : State) (o : Offer) :
    (s.adoptJob o).start = s.start ∧ (s.adoptJob o).travel = s.travel ∧ (s.adoptJob o).divert = s.divert ∧
      (s.adoptJob o).staging = s.staging ∧ (s.adoptJob o).arm = s.arm ∧ (s.adoptJob o).plate = s.plate ∧ (s.adoptJob o).pins = s.pins ∧
      (s.adoptJob o).pending = s.pending := by
  unfold State.adoptJob
  simp

@[simp] theorem State.abandonBid_frame (s : State) (o : Offer) :
    (s.abandonBid o).start = s.start ∧ (s.abandonBid o).claim = s.claim ∧ (s.abandonBid o).map = s.map ∧
      (s.abandonBid o).planner = s.planner ∧ (s.abandonBid o).travel = s.travel ∧ (s.abandonBid o).divert = s.divert ∧
      (s.abandonBid o).staging = s.staging ∧ (s.abandonBid o).arm = s.arm ∧ (s.abandonBid o).plate = s.plate ∧
      (s.abandonBid o).pins = s.pins ∧ (s.abandonBid o).pending = s.pending := by
  unfold State.abandonBid
  simp

@[simp] theorem State.activate_frame (s : State) (r : JobRecord) :
    (s.activate r).start = s.start ∧ (s.activate r).map = s.map ∧ (s.activate r).travel = s.travel ∧ (s.activate r).staging = s.staging ∧
      (s.activate r).arm = s.arm ∧ (s.activate r).plate = s.plate ∧ (s.activate r).events = s.events ∧ (s.activate r).pins = s.pins ∧
      (s.activate r).pending = s.pending := by
  unfold State.activate
  simp

@[simp] theorem State.updDivert_frame (s : State) (c : CaseId) (f : DivertEntry → DivertEntry) :
    (s.updDivert c f).start = s.start ∧ (s.updDivert c f).bus = s.bus ∧ (s.updDivert c f).claim = s.claim ∧ (s.updDivert c f).job = s.job ∧
      (s.updDivert c f).map = s.map ∧ (s.updDivert c f).planner = s.planner ∧ (s.updDivert c f).travel = s.travel ∧
      (s.updDivert c f).staging = s.staging ∧ (s.updDivert c f).arm = s.arm ∧ (s.updDivert c f).plate = s.plate ∧
      (s.updDivert c f).events = s.events ∧ (s.updDivert c f).pins = s.pins ∧ (s.updDivert c f).pending = s.pending := by
  unfold State.updDivert
  simp

@[simp] theorem State.dropDivert_frame (s : State) (c : CaseId) :
    (s.dropDivert c).start = s.start ∧ (s.dropDivert c).bus = s.bus ∧ (s.dropDivert c).claim = s.claim ∧ (s.dropDivert c).job = s.job ∧
      (s.dropDivert c).map = s.map ∧ (s.dropDivert c).planner = s.planner ∧ (s.dropDivert c).travel = s.travel ∧
      (s.dropDivert c).staging = s.staging ∧ (s.dropDivert c).arm = s.arm ∧ (s.dropDivert c).plate = s.plate ∧
      (s.dropDivert c).events = s.events ∧ (s.dropDivert c).pins = s.pins ∧ (s.dropDivert c).pending = s.pending := by
  unfold State.dropDivert
  simp

@[simp] theorem State.missDivert_frame (s : State) (c : CaseId) :
    (s.missDivert c).start = s.start ∧ (s.missDivert c).map = s.map ∧ (s.missDivert c).travel = s.travel ∧
      (s.missDivert c).staging = s.staging ∧ (s.missDivert c).arm = s.arm ∧ (s.missDivert c).plate = s.plate ∧
      (s.missDivert c).pins = s.pins ∧ (s.missDivert c).pending = s.pending := by
  unfold State.missDivert
  (repeat' split) <;> simp

@[simp] theorem State.armTest_frame (s : State) (c : CaseId) :
    (s.armTest c).start = s.start ∧ (s.armTest c).bus = s.bus ∧ (s.armTest c).job = s.job ∧ (s.armTest c).map = s.map ∧
      (s.armTest c).planner = s.planner ∧ (s.armTest c).travel = s.travel ∧ (s.armTest c).staging = s.staging ∧ (s.armTest c).arm = s.arm ∧
      (s.armTest c).plate = s.plate ∧ (s.armTest c).events = s.events ∧ (s.armTest c).pins = s.pins ∧
      (s.armTest c).pending = s.pending := by
  unfold State.armTest
  (repeat' split) <;> simp

@[simp] theorem State.fireTest_frame (s : State) (c : CaseId) :
    (s.fireTest c).start = s.start ∧ (s.fireTest c).map = s.map ∧ (s.fireTest c).travel = s.travel ∧ (s.fireTest c).staging = s.staging ∧
      (s.fireTest c).arm = s.arm ∧ (s.fireTest c).plate = s.plate ∧ (s.fireTest c).pins = s.pins ∧ (s.fireTest c).pending = s.pending := by
  unfold State.fireTest
  (repeat' split) <;> simp

@[simp] theorem State.offTest_frame (s : State) (c : CaseId) :
    (s.offTest c).start = s.start ∧ (s.offTest c).bus = s.bus ∧ (s.offTest c).claim = s.claim ∧ (s.offTest c).job = s.job ∧
      (s.offTest c).map = s.map ∧ (s.offTest c).planner = s.planner ∧ (s.offTest c).travel = s.travel ∧ (s.offTest c).staging = s.staging ∧
      (s.offTest c).arm = s.arm ∧ (s.offTest c).plate = s.plate ∧ (s.offTest c).events = s.events ∧ (s.offTest c).pins = s.pins ∧
      (s.offTest c).pending = s.pending := by
  unfold State.offTest
  (repeat' split) <;> simp

@[simp] theorem State.windowTest_frame (s : State) (c : CaseId) :
    (s.windowTest c).start = s.start ∧ (s.windowTest c).map = s.map ∧ (s.windowTest c).travel = s.travel ∧
      (s.windowTest c).staging = s.staging ∧ (s.windowTest c).arm = s.arm ∧ (s.windowTest c).plate = s.plate ∧
      (s.windowTest c).pins = s.pins ∧ (s.windowTest c).pending = s.pending := by
  unfold State.windowTest
  (repeat' split) <;> simp

@[simp] theorem State.divertTests_frame (s : State) :
    (s.divertTests).start = s.start ∧ (s.divertTests).map = s.map ∧ (s.divertTests).travel = s.travel ∧
      (s.divertTests).staging = s.staging ∧ (s.divertTests).arm = s.arm ∧ (s.divertTests).plate = s.plate ∧ (s.divertTests).pins = s.pins ∧
      (s.divertTests).pending = s.pending := by
  unfold State.divertTests
  refine ⟨?_, ?_, ?_, ?_, ?_, ?_, ?_, ?_⟩ <;>
    exact (forEntries_keeps _ State.windowTest (fun s c => by simp) _).trans ((forEntries_keeps _ State.offTest (fun s c => by simp) _).trans
      (forEntries_keeps _ (fun s c => (s.armTest c).fireTest c) (fun s c => by simp) _))

@[simp] theorem State.travelChanged_frame (s : State) :
    (s.travelChanged).start = s.start ∧ (s.travelChanged).map = s.map ∧ (s.travelChanged).travel = s.travel ∧
      (s.travelChanged).staging = s.staging ∧ (s.travelChanged).arm = s.arm ∧ (s.travelChanged).plate = s.plate ∧
      (s.travelChanged).pins = s.pins ∧ (s.travelChanged).pending = s.pending := by
  unfold State.travelChanged
  simp

@[simp] theorem State.joinDivert_frame (s : State) (e : Sighting) :
    (s.joinDivert e).start = s.start ∧ (s.joinDivert e).map = s.map ∧ (s.joinDivert e).travel = s.travel ∧
      (s.joinDivert e).staging = s.staging ∧ (s.joinDivert e).arm = s.arm ∧ (s.joinDivert e).plate = s.plate ∧
      (s.joinDivert e).pins = s.pins ∧ (s.joinDivert e).pending = s.pending := by
  unfold State.joinDivert
  simp

@[simp] theorem State.joinLane_frame (s : State) (e : Sighting) :
    (s.joinLane e).start = s.start ∧ (s.joinLane e).bus = s.bus ∧ (s.joinLane e).claim = s.claim ∧ (s.joinLane e).job = s.job ∧
      (s.joinLane e).map = s.map ∧ (s.joinLane e).travel = s.travel ∧ (s.joinLane e).divert = s.divert ∧ (s.joinLane e).arm = s.arm ∧
      (s.joinLane e).plate = s.plate ∧ (s.joinLane e).events = s.events ∧ (s.joinLane e).pins = s.pins ∧
      (s.joinLane e).pending = s.pending := by
  unfold State.joinLane
  simp

@[simp] theorem State.strayAtLane_frame (s : State) :
    (s.strayAtLane).start = s.start ∧ (s.strayAtLane).claim = s.claim ∧ (s.strayAtLane).job = s.job ∧ (s.strayAtLane).map = s.map ∧
      (s.strayAtLane).travel = s.travel ∧ (s.strayAtLane).divert = s.divert ∧ (s.strayAtLane).arm = s.arm ∧
      (s.strayAtLane).plate = s.plate ∧ (s.strayAtLane).pins = s.pins ∧ (s.strayAtLane).pending = s.pending := by
  unfold State.strayAtLane
  dsimp only
  (repeat' split) <;> simp

@[simp] theorem State.takeInGripper_frame (s : State) :
    (s.takeInGripper).start = s.start ∧ (s.takeInGripper).bus = s.bus ∧ (s.takeInGripper).claim = s.claim ∧ (s.takeInGripper).job = s.job ∧
      (s.takeInGripper).map = s.map ∧ (s.takeInGripper).travel = s.travel ∧ (s.takeInGripper).divert = s.divert ∧
      (s.takeInGripper).arm = s.arm ∧ (s.takeInGripper).plate = s.plate ∧ (s.takeInGripper).events = s.events ∧
      (s.takeInGripper).pins = s.pins ∧ (s.takeInGripper).pending = s.pending := by
  unfold State.takeInGripper
  simp

@[simp] theorem State.markSource_frame (s : State) (src : Source) (id : Option CaseId) (c : ArmCommand) :
    (s.markSource src id c).start = s.start ∧ (s.markSource src id c).bus = s.bus ∧ (s.markSource src id c).claim = s.claim ∧
      (s.markSource src id c).job = s.job ∧ (s.markSource src id c).map = s.map ∧ (s.markSource src id c).planner = s.planner ∧
      (s.markSource src id c).travel = s.travel ∧ (s.markSource src id c).divert = s.divert ∧ (s.markSource src id c).arm = s.arm ∧
      (s.markSource src id c).plate = s.plate ∧ (s.markSource src id c).events = s.events ∧ (s.markSource src id c).pins = s.pins ∧
      (s.markSource src id c).pending = s.pending := by
  unfold State.markSource
  (repeat' split) <;> simp

@[simp] theorem State.toldLeft_frame (s : State) (src : Source) :
    (s.toldLeft src).start = s.start ∧ (s.toldLeft src).job = s.job ∧ (s.toldLeft src).map = s.map ∧ (s.toldLeft src).travel = s.travel ∧
      (s.toldLeft src).divert = s.divert ∧ (s.toldLeft src).staging = s.staging ∧ (s.toldLeft src).arm = s.arm ∧
      (s.toldLeft src).plate = s.plate ∧ (s.toldLeft src).events = s.events ∧ (s.toldLeft src).pins = s.pins ∧
      (s.toldLeft src).pending = s.pending := by
  unfold State.toldLeft
  (repeat' split) <;> simp

@[simp] theorem State.acceptMove_frame (s : State) (src : Source) (c : ArmCommand) (target : Nat) :
    (s.acceptMove src c target).start = s.start ∧ (s.acceptMove src c target).job = s.job ∧ (s.acceptMove src c target).map = s.map ∧
      (s.acceptMove src c target).travel = s.travel ∧ (s.acceptMove src c target).divert = s.divert ∧
      (s.acceptMove src c target).arm = s.arm ∧ (s.acceptMove src c target).plate = s.plate ∧
      (s.acceptMove src c target).events = s.events ∧ (s.acceptMove src c target).pins = s.pins ∧
      (s.acceptMove src c target).pending = s.pending := by
  unfold State.acceptMove
  (repeat' split) <;> simp

@[simp] theorem State.removeCase_frame (s : State) (src : Source) :
    (s.removeCase src).start = s.start ∧ (s.removeCase src).job = s.job ∧ (s.removeCase src).map = s.map ∧
      (s.removeCase src).travel = s.travel ∧ (s.removeCase src).divert = s.divert ∧ (s.removeCase src).arm = s.arm ∧
      (s.removeCase src).plate = s.plate ∧ (s.removeCase src).events = s.events ∧ (s.removeCase src).pins = s.pins ∧
      (s.removeCase src).pending = s.pending := by
  unfold State.removeCase
  (repeat' split) <;> simp

@[simp] theorem State.moveToBuffer_frame (s : State) (src : Source) (b : Nat) :
    (s.moveToBuffer src b).start = s.start ∧ (s.moveToBuffer src b).job = s.job ∧ (s.moveToBuffer src b).map = s.map ∧
      (s.moveToBuffer src b).travel = s.travel ∧ (s.moveToBuffer src b).divert = s.divert ∧ (s.moveToBuffer src b).arm = s.arm ∧
      (s.moveToBuffer src b).plate = s.plate ∧ (s.moveToBuffer src b).events = s.events ∧ (s.moveToBuffer src b).pins = s.pins ∧
      (s.moveToBuffer src b).pending = s.pending := by
  unfold State.moveToBuffer
  (repeat' split) <;> simp

@[simp] theorem State.holdInGripper_frame (s : State) (src : Source) (d : GripDisposition) :
    (s.holdInGripper src d).start = s.start ∧ (s.holdInGripper src d).job = s.job ∧ (s.holdInGripper src d).map = s.map ∧
      (s.holdInGripper src d).travel = s.travel ∧ (s.holdInGripper src d).divert = s.divert ∧ (s.holdInGripper src d).arm = s.arm ∧
      (s.holdInGripper src d).plate = s.plate ∧ (s.holdInGripper src d).events = s.events ∧ (s.holdInGripper src d).pins = s.pins ∧
      (s.holdInGripper src d).pending = s.pending := by
  unfold State.holdInGripper
  dsimp only
  (repeat' split) <;> simp

@[simp] theorem State.returnCase_frame (s : State) (src : Source) :
    (s.returnCase src).start = s.start ∧ (s.returnCase src).map = s.map ∧ (s.returnCase src).travel = s.travel ∧
      (s.returnCase src).divert = s.divert ∧ (s.returnCase src).arm = s.arm ∧ (s.returnCase src).plate = s.plate ∧
      (s.returnCase src).events = s.events ∧ (s.returnCase src).pins = s.pins ∧ (s.returnCase src).pending = s.pending := by
  unfold State.returnCase
  (repeat' split) <;> simp

@[simp] theorem State.openWatch_frame (s : State) (c : CaseId) (l : LineRef) (m : Nat) :
    (s.openWatch c l m).start = s.start ∧ (s.openWatch c l m).bus = s.bus ∧ (s.openWatch c l m).claim = s.claim ∧
      (s.openWatch c l m).job = s.job ∧ (s.openWatch c l m).map = s.map ∧ (s.openWatch c l m).planner = s.planner ∧
      (s.openWatch c l m).travel = s.travel ∧ (s.openWatch c l m).divert = s.divert ∧ (s.openWatch c l m).staging = s.staging ∧
      (s.openWatch c l m).arm = s.arm ∧ (s.openWatch c l m).events = s.events ∧ (s.openWatch c l m).pins = s.pins ∧
      (s.openWatch c l m).pending = s.pending := by
  unfold State.openWatch
  simp

@[simp] theorem State.closeWatch_frame (s : State) :
    (s.closeWatch).start = s.start ∧ (s.closeWatch).bus = s.bus ∧ (s.closeWatch).claim = s.claim ∧ (s.closeWatch).job = s.job ∧
      (s.closeWatch).map = s.map ∧ (s.closeWatch).planner = s.planner ∧ (s.closeWatch).travel = s.travel ∧
      (s.closeWatch).divert = s.divert ∧ (s.closeWatch).staging = s.staging ∧ (s.closeWatch).arm = s.arm ∧
      (s.closeWatch).events = s.events ∧ (s.closeWatch).pins = s.pins ∧ (s.closeWatch).pending = s.pending := by
  unfold State.closeWatch
  simp

@[simp] theorem State.closeWatchOf_frame (s : State) (c : CaseId) :
    (s.closeWatchOf c).start = s.start ∧ (s.closeWatchOf c).bus = s.bus ∧ (s.closeWatchOf c).claim = s.claim ∧
      (s.closeWatchOf c).job = s.job ∧ (s.closeWatchOf c).map = s.map ∧ (s.closeWatchOf c).planner = s.planner ∧
      (s.closeWatchOf c).travel = s.travel ∧ (s.closeWatchOf c).divert = s.divert ∧ (s.closeWatchOf c).staging = s.staging ∧
      (s.closeWatchOf c).arm = s.arm ∧ (s.closeWatchOf c).events = s.events ∧ (s.closeWatchOf c).pins = s.pins ∧
      (s.closeWatchOf c).pending = s.pending := by
  unfold State.closeWatchOf
  (repeat' split) <;> simp

@[simp] theorem State.giveVerdict_frame (s : State) (w : Watch) (v : Verdict) :
    (s.giveVerdict w v).start = s.start ∧ (s.giveVerdict w v).travel = s.travel ∧ (s.giveVerdict w v).staging = s.staging ∧
      (s.giveVerdict w v).arm = s.arm ∧ (s.giveVerdict w v).pins = s.pins ∧ (s.giveVerdict w v).pending = s.pending := by
  unfold State.giveVerdict
  (repeat' split) <;> simp

@[simp] theorem State.plateDone_frame (s : State) (c : CaseId) :
    (s.plateDone c).start = s.start ∧ (s.plateDone c).travel = s.travel ∧ (s.plateDone c).staging = s.staging ∧
      (s.plateDone c).arm = s.arm ∧ (s.plateDone c).pins = s.pins ∧ (s.plateDone c).pending = s.pending := by
  unfold State.plateDone
  (repeat' split) <;> simp

@[simp] theorem State.centreTest_frame (s : State) :
    (s.centreTest).start = s.start ∧ (s.centreTest).claim = s.claim ∧ (s.centreTest).job = s.job ∧ (s.centreTest).map = s.map ∧
      (s.centreTest).travel = s.travel ∧ (s.centreTest).divert = s.divert ∧ (s.centreTest).staging = s.staging ∧
      (s.centreTest).arm = s.arm ∧ (s.centreTest).pins = s.pins ∧ (s.centreTest).pending = s.pending := by
  unfold State.centreTest
  dsimp only
  (repeat' split) <;> simp

@[simp] theorem State.becomeDisturbed_frame (s : State) :
    (s.becomeDisturbed).start = s.start ∧ (s.becomeDisturbed).claim = s.claim ∧ (s.becomeDisturbed).job = s.job ∧
      (s.becomeDisturbed).map = s.map ∧ (s.becomeDisturbed).travel = s.travel ∧ (s.becomeDisturbed).divert = s.divert ∧
      (s.becomeDisturbed).staging = s.staging ∧ (s.becomeDisturbed).arm = s.arm ∧ (s.becomeDisturbed).pins = s.pins ∧
      (s.becomeDisturbed).pending = s.pending := by
  unfold State.becomeDisturbed
  simp

@[simp] theorem State.endDisturbed_frame (s : State) :
    (s.endDisturbed).start = s.start ∧ (s.endDisturbed).bus = s.bus ∧ (s.endDisturbed).claim = s.claim ∧ (s.endDisturbed).job = s.job ∧
      (s.endDisturbed).map = s.map ∧ (s.endDisturbed).travel = s.travel ∧ (s.endDisturbed).divert = s.divert ∧
      (s.endDisturbed).staging = s.staging ∧ (s.endDisturbed).arm = s.arm ∧ (s.endDisturbed).events = s.events ∧
      (s.endDisturbed).pins = s.pins ∧ (s.endDisturbed).pending = s.pending := by
  unfold State.endDisturbed
  simp

@[simp] theorem State.disturbTest_frame (s : State) :
    (s.disturbTest).start = s.start ∧ (s.disturbTest).claim = s.claim ∧ (s.disturbTest).job = s.job ∧ (s.disturbTest).map = s.map ∧
      (s.disturbTest).travel = s.travel ∧ (s.disturbTest).divert = s.divert ∧ (s.disturbTest).staging = s.staging ∧
      (s.disturbTest).arm = s.arm ∧ (s.disturbTest).pins = s.pins ∧ (s.disturbTest).pending = s.pending := by
  unfold State.disturbTest
  dsimp only
  (repeat' split) <;> first | exact ⟨rfl, rfl, rfl, rfl, rfl, rfl, rfl, rfl, rfl, rfl⟩ | simp

@[simp] theorem State.endOverload_frame (s : State) :
    (s.endOverload).start = s.start ∧ (s.endOverload).bus = s.bus ∧ (s.endOverload).claim = s.claim ∧ (s.endOverload).job = s.job ∧
      (s.endOverload).map = s.map ∧ (s.endOverload).travel = s.travel ∧ (s.endOverload).divert = s.divert ∧
      (s.endOverload).staging = s.staging ∧ (s.endOverload).arm = s.arm ∧ (s.endOverload).events = s.events ∧
      (s.endOverload).pins = s.pins ∧ (s.endOverload).pending = s.pending := by
  unfold State.endOverload
  simp

@[simp] theorem State.overloadTest_frame (s : State) :
    (s.overloadTest).start = s.start ∧ (s.overloadTest).claim = s.claim ∧ (s.overloadTest).job = s.job ∧ (s.overloadTest).map = s.map ∧
      (s.overloadTest).travel = s.travel ∧ (s.overloadTest).divert = s.divert ∧ (s.overloadTest).staging = s.staging ∧
      (s.overloadTest).arm = s.arm ∧ (s.overloadTest).pins = s.pins ∧ (s.overloadTest).pending = s.pending := by
  unfold State.overloadTest
  dsimp only
  (repeat' split) <;> first | exact ⟨rfl, rfl, rfl, rfl, rfl, rfl, rfl, rfl, rfl, rfl⟩ | simp

@[simp] theorem State.quietTest_frame (s : State) :
    (s.quietTest).start = s.start ∧ (s.quietTest).bus = s.bus ∧ (s.quietTest).claim = s.claim ∧ (s.quietTest).job = s.job ∧
      (s.quietTest).map = s.map ∧ (s.quietTest).planner = s.planner ∧ (s.quietTest).travel = s.travel ∧ (s.quietTest).divert = s.divert ∧
      (s.quietTest).staging = s.staging ∧ (s.quietTest).arm = s.arm ∧ (s.quietTest).events = s.events ∧ (s.quietTest).pins = s.pins ∧
      (s.quietTest).pending = s.pending := by
  unfold State.quietTest
  (repeat' split) <;> simp

@[simp] theorem State.trackBaselines_frame (s : State) :
    (s.trackBaselines).start = s.start ∧ (s.trackBaselines).bus = s.bus ∧ (s.trackBaselines).claim = s.claim ∧
      (s.trackBaselines).job = s.job ∧ (s.trackBaselines).map = s.map ∧ (s.trackBaselines).planner = s.planner ∧
      (s.trackBaselines).travel = s.travel ∧ (s.trackBaselines).divert = s.divert ∧ (s.trackBaselines).staging = s.staging ∧
      (s.trackBaselines).arm = s.arm ∧ (s.trackBaselines).events = s.events ∧ (s.trackBaselines).pins = s.pins ∧
      (s.trackBaselines).pending = s.pending := by
  unfold State.trackBaselines
  (repeat' split) <;> simp

@[simp] theorem State.takeTare_frame (s : State) :
    (s.takeTare).start = s.start ∧ (s.takeTare).bus = s.bus ∧ (s.takeTare).claim = s.claim ∧ (s.takeTare).job = s.job ∧
      (s.takeTare).map = s.map ∧ (s.takeTare).planner = s.planner ∧ (s.takeTare).travel = s.travel ∧ (s.takeTare).divert = s.divert ∧
      (s.takeTare).staging = s.staging ∧ (s.takeTare).arm = s.arm ∧ (s.takeTare).events = s.events ∧ (s.takeTare).pins = s.pins ∧
      (s.takeTare).pending = s.pending := by
  unfold State.takeTare
  simp

@[simp] theorem State.armBegin_frame (s : State) :
    (s.armBegin).start = s.start ∧ (s.armBegin).bus = s.bus ∧ (s.armBegin).claim = s.claim ∧ (s.armBegin).job = s.job ∧
      (s.armBegin).map = s.map ∧ (s.armBegin).planner = s.planner ∧ (s.armBegin).travel = s.travel ∧ (s.armBegin).divert = s.divert ∧
      (s.armBegin).staging = s.staging ∧ (s.armBegin).plate = s.plate ∧ (s.armBegin).events = s.events ∧ (s.armBegin).pins = s.pins ∧
      (s.armBegin).pending = s.pending := by
  unfold State.armBegin
  (repeat' split) <;> simp

@[simp] theorem State.sendReady_frame (s : State) (m : ArmMessage) :
    (s.sendReady m).start = s.start ∧ (s.sendReady m).bus = s.bus ∧ (s.sendReady m).claim = s.claim ∧ (s.sendReady m).job = s.job ∧
      (s.sendReady m).map = s.map ∧ (s.sendReady m).planner = s.planner ∧ (s.sendReady m).travel = s.travel ∧
      (s.sendReady m).divert = s.divert ∧ (s.sendReady m).staging = s.staging ∧ (s.sendReady m).plate = s.plate ∧
      (s.sendReady m).events = s.events ∧ (s.sendReady m).pins = s.pins ∧ (s.sendReady m).pending = s.pending := by
  unfold State.sendReady
  simp

@[simp] theorem State.endMessage_frame (s : State) :
    (s.endMessage).start = s.start ∧ (s.endMessage).bus = s.bus ∧ (s.endMessage).claim = s.claim ∧ (s.endMessage).job = s.job ∧
      (s.endMessage).map = s.map ∧ (s.endMessage).planner = s.planner ∧ (s.endMessage).travel = s.travel ∧
      (s.endMessage).divert = s.divert ∧ (s.endMessage).staging = s.staging ∧ (s.endMessage).plate = s.plate ∧
      (s.endMessage).events = s.events ∧ (s.endMessage).pins = s.pins ∧ (s.endMessage).pending = s.pending := by
  unfold State.endMessage
  simp

@[simp] theorem State.issueCommand_frame (s : State) (a : Action) (src : Source) (id : Option CaseId) :
    (s.issueCommand a src id).start = s.start ∧ (s.issueCommand a src id).bus = s.bus ∧ (s.issueCommand a src id).claim = s.claim ∧
      (s.issueCommand a src id).job = s.job ∧ (s.issueCommand a src id).map = s.map ∧ (s.issueCommand a src id).planner = s.planner ∧
      (s.issueCommand a src id).travel = s.travel ∧ (s.issueCommand a src id).divert = s.divert ∧ (s.issueCommand a src id).plate = s.plate ∧
      (s.issueCommand a src id).events = s.events ∧ (s.issueCommand a src id).pins = s.pins ∧ (s.issueCommand a src id).pending = s.pending := by
  unfold State.issueCommand
  simp

@[simp] theorem State.clearCmd_frame (s : State) :
    (s.clearCmd).start = s.start ∧ (s.clearCmd).bus = s.bus ∧ (s.clearCmd).claim = s.claim ∧ (s.clearCmd).job = s.job ∧
      (s.clearCmd).map = s.map ∧ (s.clearCmd).planner = s.planner ∧ (s.clearCmd).travel = s.travel ∧ (s.clearCmd).divert = s.divert ∧
      (s.clearCmd).staging = s.staging ∧ (s.clearCmd).plate = s.plate ∧ (s.clearCmd).events = s.events ∧ (s.clearCmd).pins = s.pins ∧
      (s.clearCmd).pending = s.pending := by
  unfold State.clearCmd
  simp

@[simp] theorem State.setProgress_frame (s : State) (p : Progress) :
    (s.setProgress p).start = s.start ∧ (s.setProgress p).bus = s.bus ∧ (s.setProgress p).claim = s.claim ∧ (s.setProgress p).job = s.job ∧
      (s.setProgress p).map = s.map ∧ (s.setProgress p).planner = s.planner ∧ (s.setProgress p).travel = s.travel ∧
      (s.setProgress p).divert = s.divert ∧ (s.setProgress p).staging = s.staging ∧ (s.setProgress p).plate = s.plate ∧
      (s.setProgress p).events = s.events ∧ (s.setProgress p).pins = s.pins ∧ (s.setProgress p).pending = s.pending := by
  unfold State.setProgress
  simp

@[simp] theorem State.loseCommand_frame (s : State) (c : Outstanding) :
    (s.loseCommand c).start = s.start ∧ (s.loseCommand c).travel = s.travel ∧ (s.loseCommand c).divert = s.divert ∧
      (s.loseCommand c).arm = s.arm ∧ (s.loseCommand c).pins = s.pins ∧ (s.loseCommand c).pending = s.pending := by
  unfold State.loseCommand
  (repeat' split) <;> simp

@[simp] theorem State.loseGripper_frame (s : State) (g : Gripper) :
    (s.loseGripper g).start = s.start ∧ (s.loseGripper g).map = s.map ∧ (s.loseGripper g).travel = s.travel ∧
      (s.loseGripper g).divert = s.divert ∧ (s.loseGripper g).arm = s.arm ∧ (s.loseGripper g).plate = s.plate ∧
      (s.loseGripper g).pins = s.pins ∧ (s.loseGripper g).pending = s.pending := by
  unfold State.loseGripper
  simp

@[simp] theorem State.completeCommand_frame (s : State) (c : Outstanding) :
    (s.completeCommand c).start = s.start ∧ (s.completeCommand c).travel = s.travel ∧ (s.completeCommand c).arm = s.arm ∧
      (s.completeCommand c).pins = s.pins ∧ (s.completeCommand c).pending = s.pending := by
  unfold State.completeCommand
  (repeat' split) <;> simp

@[simp] theorem State.undoPlace_frame (s : State) (c : Outstanding) :
    (s.undoPlace c).start = s.start ∧ (s.undoPlace c).bus = s.bus ∧ (s.undoPlace c).claim = s.claim ∧ (s.undoPlace c).job = s.job ∧
      (s.undoPlace c).travel = s.travel ∧ (s.undoPlace c).divert = s.divert ∧ (s.undoPlace c).staging = s.staging ∧
      (s.undoPlace c).arm = s.arm ∧ (s.undoPlace c).events = s.events ∧ (s.undoPlace c).pins = s.pins ∧
      (s.undoPlace c).pending = s.pending := by
  unfold State.undoPlace
  (repeat' split) <;> simp

@[simp] theorem State.answerEvidence_frame (s : State) (c : Outstanding) (gained : Bool) :
    (s.answerEvidence c gained).start = s.start ∧ (s.answerEvidence c gained).travel = s.travel ∧
      (s.answerEvidence c gained).pins = s.pins ∧ (s.answerEvidence c gained).pending = s.pending := by
  unfold State.answerEvidence
  dsimp only
  (repeat' split) <;> simp

@[simp] theorem State.endEvidence_frame (s : State) (gained : Bool) :
    (s.endEvidence gained).start = s.start ∧ (s.endEvidence gained).travel = s.travel ∧ (s.endEvidence gained).pins = s.pins ∧
      (s.endEvidence gained).pending = s.pending := by
  unfold State.endEvidence
  (repeat' split) <;> simp

@[simp] theorem State.askEvidence_frame (s : State) (c : Outstanding) (p : Provisional) :
    (s.askEvidence c p).start = s.start ∧ (s.askEvidence c p).travel = s.travel ∧ (s.askEvidence c p).pins = s.pins ∧
      (s.askEvidence c p).pending = s.pending := by
  unfold State.askEvidence
  dsimp only
  (repeat' split) <;> simp

@[simp] theorem State.settleHeld_frame (s : State) (c : Outstanding) :
    (s.settleHeld c).start = s.start ∧ (s.settleHeld c).job = s.job ∧ (s.settleHeld c).travel = s.travel ∧
      (s.settleHeld c).divert = s.divert ∧ (s.settleHeld c).events = s.events ∧ (s.settleHeld c).pins = s.pins ∧
      (s.settleHeld c).pending = s.pending := by
  unfold State.settleHeld
  simp

@[simp] theorem State.settleEmpty_frame (s : State) (c : Outstanding) :
    (s.settleEmpty c).start = s.start ∧ (s.settleEmpty c).travel = s.travel ∧ (s.settleEmpty c).pins = s.pins ∧
      (s.settleEmpty c).pending = s.pending := by
  unfold State.settleEmpty
  dsimp only
  (repeat' split) <;> simp

@[simp] theorem State.settleUnknown_frame (s : State) (c : Outstanding) (g : GripperState) :
    (s.settleUnknown c g).start = s.start ∧ (s.settleUnknown c g).travel = s.travel ∧ (s.settleUnknown c g).pins = s.pins ∧
      (s.settleUnknown c g).pending = s.pending := by
  unfold State.settleUnknown
  (repeat' split) <;> simp

@[simp] theorem State.settledNow_frame (s : State) :
    (s.settledNow).start = s.start ∧ (s.settledNow).travel = s.travel ∧ (s.settledNow).pins = s.pins ∧ (s.settledNow).pending = s.pending := by
  unfold State.settledNow
  dsimp only
  (repeat' split) <;> simp

@[simp] theorem State.verifyOver_frame (s : State) :
    (s.verifyOver).start = s.start ∧ (s.verifyOver).travel = s.travel ∧ (s.verifyOver).staging = s.staging ∧
      (s.verifyOver).arm = s.arm ∧ (s.verifyOver).pins = s.pins ∧ (s.verifyOver).pending = s.pending := by
  unfold State.verifyOver
  (repeat' split) <;> simp

@[simp] theorem State.closeWindows_frame (s : State) :
    (s.closeWindows).start = s.start ∧ (s.closeWindows).travel = s.travel ∧ (s.closeWindows).pins = s.pins ∧
      (s.closeWindows).pending = s.pending := by
  unfold State.closeWindows
  dsimp only
  (repeat' split) <;> simp

@[simp] theorem State.leaveTared_frame (s : State) :
    (s.leaveTared).start = s.start ∧ (s.leaveTared).travel = s.travel ∧ (s.leaveTared).pins = s.pins ∧ (s.leaveTared).pending = s.pending := by
  unfold State.leaveTared
  (repeat' split) <;> simp

@[simp] theorem State.startPass_frame (s : State) :
    (s.startPass).start = s.start ∧ (s.startPass).bus = s.bus ∧ (s.startPass).claim = s.claim ∧ (s.startPass).job = s.job ∧
      (s.startPass).map = s.map ∧ (s.startPass).travel = s.travel ∧ (s.startPass).divert = s.divert ∧ (s.startPass).staging = s.staging ∧
      (s.startPass).arm = s.arm ∧ (s.startPass).plate = s.plate ∧ (s.startPass).events = s.events ∧ (s.startPass).pins = s.pins ∧
      (s.startPass).pending = s.pending := by
  unfold State.startPass
  simp

@[simp] theorem State.issueResult_frame (s : State) (r : PlanResult) :
    (s.issueResult r).start = s.start ∧ (s.issueResult r).bus = s.bus ∧ (s.issueResult r).claim = s.claim ∧ (s.issueResult r).job = s.job ∧
      (s.issueResult r).travel = s.travel ∧ (s.issueResult r).divert = s.divert ∧ (s.issueResult r).plate = s.plate ∧
      (s.issueResult r).events = s.events ∧ (s.issueResult r).pins = s.pins ∧ (s.issueResult r).pending = s.pending := by
  unfold State.issueResult
  dsimp only
  (repeat' split) <;> simp

@[simp] theorem State.endPass_frame (s : State) (p : Pass) :
    (s.endPass p).start = s.start ∧ (s.endPass p).bus = s.bus ∧ (s.endPass p).claim = s.claim ∧ (s.endPass p).job = s.job ∧
      (s.endPass p).travel = s.travel ∧ (s.endPass p).divert = s.divert ∧ (s.endPass p).plate = s.plate ∧ (s.endPass p).events = s.events ∧
      (s.endPass p).pins = s.pins ∧ (s.endPass p).pending = s.pending := by
  unfold State.endPass
  (repeat' split) <;> simp

@[simp] theorem State.issueReleased_frame (s : State) :
    (s.issueReleased).start = s.start ∧ (s.issueReleased).bus = s.bus ∧ (s.issueReleased).claim = s.claim ∧ (s.issueReleased).job = s.job ∧
      (s.issueReleased).travel = s.travel ∧ (s.issueReleased).divert = s.divert ∧ (s.issueReleased).plate = s.plate ∧
      (s.issueReleased).events = s.events ∧ (s.issueReleased).pins = s.pins ∧ (s.issueReleased).pending = s.pending := by
  unfold State.issueReleased
  (repeat' split) <;> simp

@[simp] theorem State.returnHeld_frame (s : State) :
    (s.returnHeld).start = s.start ∧ (s.returnHeld).bus = s.bus ∧ (s.returnHeld).claim = s.claim ∧ (s.returnHeld).job = s.job ∧
      (s.returnHeld).map = s.map ∧ (s.returnHeld).planner = s.planner ∧ (s.returnHeld).travel = s.travel ∧
      (s.returnHeld).divert = s.divert ∧ (s.returnHeld).plate = s.plate ∧ (s.returnHeld).events = s.events ∧ (s.returnHeld).pins = s.pins ∧
      (s.returnHeld).pending = s.pending := by
  unfold State.returnHeld
  (repeat' split) <;> simp

@[simp] theorem State.setBid_frame (s : State) (j : JobId) (b : BidState) :
    (s.setBid j b).start = s.start ∧ (s.setBid j b).bus = s.bus ∧ (s.setBid j b).claim = s.claim ∧ (s.setBid j b).map = s.map ∧
      (s.setBid j b).planner = s.planner ∧ (s.setBid j b).travel = s.travel ∧ (s.setBid j b).divert = s.divert ∧
      (s.setBid j b).staging = s.staging ∧ (s.setBid j b).arm = s.arm ∧ (s.setBid j b).plate = s.plate ∧ (s.setBid j b).events = s.events ∧
      (s.setBid j b).pins = s.pins ∧ (s.setBid j b).pending = s.pending := by
  unfold State.setBid
  simp

@[simp] theorem State.beginSending_frame (s : State) (f : TxFrame) :
    (s.beginSending f).start = s.start ∧ (s.beginSending f).claim = s.claim ∧ (s.beginSending f).map = s.map ∧
      (s.beginSending f).planner = s.planner ∧ (s.beginSending f).travel = s.travel ∧ (s.beginSending f).divert = s.divert ∧
      (s.beginSending f).staging = s.staging ∧ (s.beginSending f).arm = s.arm ∧ (s.beginSending f).plate = s.plate ∧
      (s.beginSending f).events = s.events ∧ (s.beginSending f).pins = s.pins ∧ (s.beginSending f).pending = s.pending := by
  unfold State.beginSending
  (repeat' split) <;> simp

@[simp] theorem State.chooseFrame_frame (n : Nat) (s : State) :
    (State.chooseFrame n s).start = s.start ∧ (State.chooseFrame n s).map = s.map ∧ (State.chooseFrame n s).planner = s.planner ∧
      (State.chooseFrame n s).travel = s.travel ∧ (State.chooseFrame n s).divert = s.divert ∧ (State.chooseFrame n s).staging = s.staging ∧
      (State.chooseFrame n s).arm = s.arm ∧ (State.chooseFrame n s).plate = s.plate ∧ (State.chooseFrame n s).events = s.events ∧
      (State.chooseFrame n s).pins = s.pins ∧ (State.chooseFrame n s).pending = s.pending := by
  induction n generalizing s with
  | zero => simp [State.chooseFrame]
  | succ n ih => unfold State.chooseFrame; (repeat' split) <;> simp [ih]

@[simp] theorem State.contend_frame (s : State) :
    (s.contend).start = s.start ∧ (s.contend).map = s.map ∧ (s.contend).planner = s.planner ∧ (s.contend).travel = s.travel ∧
      (s.contend).divert = s.divert ∧ (s.contend).staging = s.staging ∧ (s.contend).arm = s.arm ∧ (s.contend).plate = s.plate ∧
      (s.contend).events = s.events ∧ (s.contend).pins = s.pins ∧ (s.contend).pending = s.pending := by
  unfold State.contend
  split
  · exact State.chooseFrame_frame _ _
  · simp

@[simp] theorem State.finish_frame (s : State) :
    (s.finish).start = s.start ∧ (s.finish).travel = s.travel ∧ (s.finish).divert = s.divert ∧ (s.finish).plate = s.plate ∧
      (s.finish).pins = s.pins ∧ (s.finish).pending = s.pending := by
  unfold State.finish
  simp

@[simp] theorem State.plateRise_frame (s : State) :
    (s.plateRise).start = s.start ∧ (s.plateRise).bus = s.bus ∧ (s.plateRise).claim = s.claim ∧ (s.plateRise).job = s.job ∧
      (s.plateRise).map = s.map ∧ (s.plateRise).planner = s.planner ∧ (s.plateRise).travel = s.travel ∧ (s.plateRise).divert = s.divert ∧
      (s.plateRise).staging = s.staging ∧ (s.plateRise).arm = s.arm ∧ (s.plateRise).events = s.events ∧ (s.plateRise).pins = s.pins ∧
      (s.plateRise).pending = s.pending := by
  unfold State.plateRise
  (repeat' split) <;> simp

@[simp] theorem State.plateFall_frame (s : State) :
    (s.plateFall).start = s.start ∧ (s.plateFall).travel = s.travel ∧ (s.plateFall).pins = s.pins ∧ (s.plateFall).pending = s.pending := by
  unfold State.plateFall
  (repeat' split) <;> simp

@[simp] theorem State.counted_frame (s : State) (t : TravelUnit) :
    (s.counted t).start = s.start ∧ (s.counted t).plate = s.plate ∧ (s.counted t).pins = s.pins ∧ (s.counted t).pending = s.pending := by
  unfold State.counted
  (repeat' split) <;> simp

@[simp] theorem State.confirm_frame (s : State) (e : DivertEntry) :
    (s.confirm e).start = s.start ∧ (s.confirm e).job = s.job ∧ (s.confirm e).map = s.map ∧ (s.confirm e).travel = s.travel ∧
      (s.confirm e).arm = s.arm ∧ (s.confirm e).plate = s.plate ∧ (s.confirm e).pins = s.pins ∧ (s.confirm e).pending = s.pending := by
  unfold State.confirm
  (repeat' split) <;> simp

@[simp] theorem State.laneStart_frame (s : State) :
    (s.laneStart).start = s.start ∧ (s.laneStart).job = s.job ∧ (s.laneStart).map = s.map ∧ (s.laneStart).travel = s.travel ∧
      (s.laneStart).arm = s.arm ∧ (s.laneStart).plate = s.plate ∧ (s.laneStart).pins = s.pins ∧ (s.laneStart).pending = s.pending := by
  unfold State.laneStart
  (repeat' split) <;> simp

@[simp] theorem State.lockChanged_frame (s : State) :
    (s.lockChanged).start = s.start ∧ (s.lockChanged).job = s.job ∧ (s.lockChanged).map = s.map ∧ (s.lockChanged).planner = s.planner ∧
      (s.lockChanged).travel = s.travel ∧ (s.lockChanged).divert = s.divert ∧ (s.lockChanged).staging = s.staging ∧
      (s.lockChanged).arm = s.arm ∧ (s.lockChanged).plate = s.plate ∧ (s.lockChanged).pins = s.pins ∧
      (s.lockChanged).pending = s.pending := by
  unfold State.lockChanged
  dsimp only
  (repeat' split) <;> simp

@[simp] theorem State.stopBelt_frame (s : State) :
    (s.stopBelt).start = s.start ∧ (s.stopBelt).job = s.job ∧ (s.stopBelt).map = s.map ∧ (s.stopBelt).planner = s.planner ∧
      (s.stopBelt).divert = s.divert ∧ (s.stopBelt).staging = s.staging ∧ (s.stopBelt).arm = s.arm ∧ (s.stopBelt).plate = s.plate ∧
      (s.stopBelt).pins = s.pins ∧ (s.stopBelt).pending = s.pending := by
  unfold State.stopBelt
  simp

@[simp] theorem State.lockOn_frame (s : State) :
    (s.lockOn).start = s.start ∧ (s.lockOn).job = s.job ∧ (s.lockOn).map = s.map ∧ (s.lockOn).planner = s.planner ∧
      (s.lockOn).divert = s.divert ∧ (s.lockOn).staging = s.staging ∧ (s.lockOn).arm = s.arm ∧ (s.lockOn).plate = s.plate ∧
      (s.lockOn).pins = s.pins ∧ (s.lockOn).pending = s.pending := by
  unfold State.lockOn
  simp

@[simp] theorem State.acquire_frame (s : State) (vm : Nat) :
    (s.acquire vm).start = s.start ∧ (s.acquire vm).job = s.job ∧ (s.acquire vm).map = s.map ∧ (s.acquire vm).planner = s.planner ∧
      (s.acquire vm).divert = s.divert ∧ (s.acquire vm).staging = s.staging ∧ (s.acquire vm).arm = s.arm ∧ (s.acquire vm).plate = s.plate ∧
      (s.acquire vm).pins = s.pins ∧ (s.acquire vm).pending = s.pending := by
  unfold State.acquire
  dsimp only
  (repeat' split) <;> simp

@[simp] theorem State.trackSpeed_frame (s : State) (vm : Nat) :
    (s.trackSpeed vm).start = s.start ∧ (s.trackSpeed vm).job = s.job ∧ (s.trackSpeed vm).map = s.map ∧
      (s.trackSpeed vm).planner = s.planner ∧ (s.trackSpeed vm).divert = s.divert ∧ (s.trackSpeed vm).staging = s.staging ∧
      (s.trackSpeed vm).arm = s.arm ∧ (s.trackSpeed vm).plate = s.plate ∧ (s.trackSpeed vm).pins = s.pins ∧
      (s.trackSpeed vm).pending = s.pending := by
  unfold State.trackSpeed
  dsimp only
  (repeat' split) <;> simp

@[simp] theorem State.windowBy_frame (s : State) (vm : Nat) :
    (s.windowBy vm).start = s.start ∧ (s.windowBy vm).job = s.job ∧ (s.windowBy vm).map = s.map ∧ (s.windowBy vm).planner = s.planner ∧
      (s.windowBy vm).divert = s.divert ∧ (s.windowBy vm).staging = s.staging ∧ (s.windowBy vm).arm = s.arm ∧
      (s.windowBy vm).plate = s.plate ∧ (s.windowBy vm).pins = s.pins ∧ (s.windowBy vm).pending = s.pending := by
  unfold State.windowBy
  (repeat' split) <;> simp

@[simp] theorem State.windowEnd_frame (s : State) :
    (s.windowEnd).start = s.start ∧ (s.windowEnd).plate = s.plate ∧ (s.windowEnd).pins = s.pins ∧ (s.windowEnd).pending = s.pending := by
  unfold State.windowEnd
  simp

@[simp] theorem State.muteTest_frame (s : State) :
    (s.muteTest).start = s.start ∧ (s.muteTest).claim = s.claim ∧ (s.muteTest).job = s.job ∧ (s.muteTest).map = s.map ∧
      (s.muteTest).planner = s.planner ∧ (s.muteTest).travel = s.travel ∧ (s.muteTest).divert = s.divert ∧
      (s.muteTest).staging = s.staging ∧ (s.muteTest).arm = s.arm ∧ (s.muteTest).plate = s.plate ∧ (s.muteTest).pins = s.pins ∧
      (s.muteTest).pending = s.pending := by
  unfold State.muteTest
  (repeat' split) <;> simp

@[simp] theorem State.frameSeen_frame (s : State) (vetoed good : Bool) (drive : LineDrive) :
    (s.frameSeen vetoed good drive).start = s.start ∧ (s.frameSeen vetoed good drive).claim = s.claim ∧
      (s.frameSeen vetoed good drive).job = s.job ∧ (s.frameSeen vetoed good drive).map = s.map ∧
      (s.frameSeen vetoed good drive).planner = s.planner ∧ (s.frameSeen vetoed good drive).travel = s.travel ∧
      (s.frameSeen vetoed good drive).divert = s.divert ∧ (s.frameSeen vetoed good drive).staging = s.staging ∧
      (s.frameSeen vetoed good drive).arm = s.arm ∧ (s.frameSeen vetoed good drive).plate = s.plate ∧
      (s.frameSeen vetoed good drive).pins = s.pins ∧ (s.frameSeen vetoed good drive).pending = s.pending := by
  unfold State.frameSeen
  simp

@[simp] theorem State.pendingIn_frame (s : State) :
    (s.pendingIn).start = s.start ∧ (s.pendingIn).claim = s.claim ∧ (s.pendingIn).job = s.job ∧ (s.pendingIn).map = s.map ∧
      (s.pendingIn).planner = s.planner ∧ (s.pendingIn).travel = s.travel ∧ (s.pendingIn).divert = s.divert ∧
      (s.pendingIn).staging = s.staging ∧ (s.pendingIn).arm = s.arm ∧ (s.pendingIn).plate = s.plate ∧ (s.pendingIn).events = s.events ∧
      (s.pendingIn).pins = s.pins ∧ (s.pendingIn).pending = s.pending := by
  unfold State.pendingIn
  (repeat' split) <;> simp

@[simp] theorem State.placeFreed_frame (s : State) (p : TxPayload) :
    (s.placeFreed p).start = s.start ∧ (s.placeFreed p).map = s.map ∧ (s.placeFreed p).planner = s.planner ∧
      (s.placeFreed p).travel = s.travel ∧ (s.placeFreed p).divert = s.divert ∧ (s.placeFreed p).staging = s.staging ∧
      (s.placeFreed p).arm = s.arm ∧ (s.placeFreed p).plate = s.plate ∧ (s.placeFreed p).events = s.events ∧
      (s.placeFreed p).pins = s.pins ∧ (s.placeFreed p).pending = s.pending := by
  unfold State.placeFreed
  (repeat' split) <;> simp

@[simp] theorem State.tellReturned_frame (s : State) (p : TxPayload) :
    (s.tellReturned p).start = s.start ∧ (s.tellReturned p).map = s.map ∧ (s.tellReturned p).planner = s.planner ∧
      (s.tellReturned p).travel = s.travel ∧ (s.tellReturned p).divert = s.divert ∧ (s.tellReturned p).staging = s.staging ∧
      (s.tellReturned p).arm = s.arm ∧ (s.tellReturned p).plate = s.plate ∧ (s.tellReturned p).events = s.events ∧
      (s.tellReturned p).pins = s.pins ∧ (s.tellReturned p).pending = s.pending := by
  unfold State.tellReturned
  (repeat' split) <;> simp

@[simp] theorem State.backToWaiting_frame (s : State) (f : TxFrame) (vetoes : Nat) :
    (s.backToWaiting f vetoes).start = s.start ∧ (s.backToWaiting f vetoes).map = s.map ∧ (s.backToWaiting f vetoes).planner = s.planner ∧
      (s.backToWaiting f vetoes).travel = s.travel ∧ (s.backToWaiting f vetoes).divert = s.divert ∧
      (s.backToWaiting f vetoes).staging = s.staging ∧ (s.backToWaiting f vetoes).arm = s.arm ∧
      (s.backToWaiting f vetoes).plate = s.plate ∧ (s.backToWaiting f vetoes).events = s.events ∧
      (s.backToWaiting f vetoes).pins = s.pins ∧ (s.backToWaiting f vetoes).pending = s.pending := by
  unfold State.backToWaiting
  simp

@[simp] theorem State.lostAttempt_frame (s : State) :
    (s.lostAttempt).start = s.start ∧ (s.lostAttempt).map = s.map ∧ (s.lostAttempt).planner = s.planner ∧
      (s.lostAttempt).travel = s.travel ∧ (s.lostAttempt).divert = s.divert ∧ (s.lostAttempt).staging = s.staging ∧
      (s.lostAttempt).arm = s.arm ∧ (s.lostAttempt).plate = s.plate ∧ (s.lostAttempt).events = s.events ∧ (s.lostAttempt).pins = s.pins ∧
      (s.lostAttempt).pending = s.pending := by
  unfold State.lostAttempt
  (repeat' split) <;> simp

@[simp] theorem State.takeSending_frame (s : State) :
    (s.takeSending).start = s.start ∧ (s.takeSending).claim = s.claim ∧ (s.takeSending).job = s.job ∧ (s.takeSending).map = s.map ∧
      (s.takeSending).planner = s.planner ∧ (s.takeSending).travel = s.travel ∧ (s.takeSending).divert = s.divert ∧
      (s.takeSending).staging = s.staging ∧ (s.takeSending).arm = s.arm ∧ (s.takeSending).plate = s.plate ∧
      (s.takeSending).events = s.events ∧ (s.takeSending).pins = s.pins ∧ (s.takeSending).pending = s.pending := by
  unfold State.takeSending
  simp

@[simp] theorem State.tellDropped_frame (s : State) (p : TxPayload) :
    (s.tellDropped p).start = s.start ∧ (s.tellDropped p).map = s.map ∧ (s.tellDropped p).planner = s.planner ∧
      (s.tellDropped p).travel = s.travel ∧ (s.tellDropped p).divert = s.divert ∧ (s.tellDropped p).staging = s.staging ∧
      (s.tellDropped p).arm = s.arm ∧ (s.tellDropped p).plate = s.plate ∧ (s.tellDropped p).events = s.events ∧
      (s.tellDropped p).pins = s.pins ∧ (s.tellDropped p).pending = s.pending := by
  unfold State.tellDropped
  (repeat' split) <;> simp

@[simp] theorem State.dropFrame_frame (s : State) (p : TxPayload) :
    (s.dropFrame p).start = s.start ∧ (s.dropFrame p).map = s.map ∧ (s.dropFrame p).planner = s.planner ∧
      (s.dropFrame p).travel = s.travel ∧ (s.dropFrame p).divert = s.divert ∧ (s.dropFrame p).staging = s.staging ∧
      (s.dropFrame p).arm = s.arm ∧ (s.dropFrame p).plate = s.plate ∧ (s.dropFrame p).pins = s.pins ∧
      (s.dropFrame p).pending = s.pending := by
  unfold State.dropFrame
  simp

@[simp] theorem State.voidAttempt_frame (s : State) (f : TxFrame) (how : VoidCause) :
    (s.voidAttempt f how).start = s.start ∧ (s.voidAttempt f how).map = s.map ∧ (s.voidAttempt f how).planner = s.planner ∧
      (s.voidAttempt f how).travel = s.travel ∧ (s.voidAttempt f how).divert = s.divert ∧ (s.voidAttempt f how).staging = s.staging ∧
      (s.voidAttempt f how).arm = s.arm ∧ (s.voidAttempt f how).plate = s.plate ∧ (s.voidAttempt f how).pins = s.pins ∧
      (s.voidAttempt f how).pending = s.pending := by
  unfold State.voidAttempt
  (repeat' split) <;> simp

@[simp] theorem State.countRefused_frame (s : State) :
    (s.countRefused).start = s.start ∧ (s.countRefused).claim = s.claim ∧ (s.countRefused).job = s.job ∧ (s.countRefused).map = s.map ∧
      (s.countRefused).planner = s.planner ∧ (s.countRefused).travel = s.travel ∧ (s.countRefused).divert = s.divert ∧
      (s.countRefused).staging = s.staging ∧ (s.countRefused).arm = s.arm ∧ (s.countRefused).plate = s.plate ∧
      (s.countRefused).events = s.events ∧ (s.countRefused).pins = s.pins ∧ (s.countRefused).pending = s.pending := by
  unfold State.countRefused
  simp

@[simp] theorem State.collectExpired_frame (s : State) :
    (s.collectExpired).start = s.start ∧ (s.collectExpired).travel = s.travel ∧ (s.collectExpired).divert = s.divert ∧
      (s.collectExpired).plate = s.plate ∧ (s.collectExpired).pins = s.pins ∧ (s.collectExpired).pending = s.pending := by
  unfold State.collectExpired
  (repeat' split) <;> simp

@[simp] theorem State.stallExpired_frame (s : State) :
    (s.stallExpired).start = s.start ∧ (s.stallExpired).travel = s.travel ∧ (s.stallExpired).plate = s.plate ∧
      (s.stallExpired).pins = s.pins ∧ (s.stallExpired).pending = s.pending := by
  unfold State.stallExpired
  (repeat' split) <;> simp

@[simp] theorem State.cancelBid_frame (s : State) (job : JobId) :
    (s.cancelBid job).start = s.start ∧ (s.cancelBid job).claim = s.claim ∧ (s.cancelBid job).map = s.map ∧
      (s.cancelBid job).planner = s.planner ∧ (s.cancelBid job).travel = s.travel ∧ (s.cancelBid job).divert = s.divert ∧
      (s.cancelBid job).staging = s.staging ∧ (s.cancelBid job).arm = s.arm ∧ (s.cancelBid job).plate = s.plate ∧
      (s.cancelBid job).events = s.events ∧ (s.cancelBid job).pins = s.pins ∧ (s.cancelBid job).pending = s.pending := by
  unfold State.cancelBid
  (repeat' split) <;> simp

@[simp] theorem State.cancelJob_frame (s : State) (job : JobId) :
    (s.cancelJob job).start = s.start ∧ (s.cancelJob job).map = s.map ∧ (s.cancelJob job).travel = s.travel ∧
      (s.cancelJob job).staging = s.staging ∧ (s.cancelJob job).arm = s.arm ∧ (s.cancelJob job).plate = s.plate ∧
      (s.cancelJob job).events = s.events ∧ (s.cancelJob job).pins = s.pins ∧ (s.cancelJob job).pending = s.pending := by
  unfold State.cancelJob
  (repeat' split) <;> simp

@[simp] theorem State.takeOffer_frame (s : State) (job : JobId) (lineCount footprint : Byte) (heightLimit loadLimit : BitVec 16) :
    (s.takeOffer job lineCount footprint heightLimit loadLimit).start = s.start ∧
      (s.takeOffer job lineCount footprint heightLimit loadLimit).claim = s.claim ∧
      (s.takeOffer job lineCount footprint heightLimit loadLimit).map = s.map ∧
      (s.takeOffer job lineCount footprint heightLimit loadLimit).planner = s.planner ∧
      (s.takeOffer job lineCount footprint heightLimit loadLimit).travel = s.travel ∧
      (s.takeOffer job lineCount footprint heightLimit loadLimit).divert = s.divert ∧
      (s.takeOffer job lineCount footprint heightLimit loadLimit).staging = s.staging ∧
      (s.takeOffer job lineCount footprint heightLimit loadLimit).arm = s.arm ∧
      (s.takeOffer job lineCount footprint heightLimit loadLimit).plate = s.plate ∧
      (s.takeOffer job lineCount footprint heightLimit loadLimit).events = s.events ∧
      (s.takeOffer job lineCount footprint heightLimit loadLimit).pins = s.pins ∧
      (s.takeOffer job lineCount footprint heightLimit loadLimit).pending = s.pending := by
  unfold State.takeOffer
  (repeat' split) <;> simp

@[simp] theorem State.countIgnored_frame (s : State) :
    (s.countIgnored).start = s.start ∧ (s.countIgnored).bus = s.bus ∧ (s.countIgnored).claim = s.claim ∧ (s.countIgnored).map = s.map ∧
      (s.countIgnored).planner = s.planner ∧ (s.countIgnored).travel = s.travel ∧ (s.countIgnored).divert = s.divert ∧
      (s.countIgnored).staging = s.staging ∧ (s.countIgnored).arm = s.arm ∧ (s.countIgnored).plate = s.plate ∧
      (s.countIgnored).events = s.events ∧ (s.countIgnored).pins = s.pins ∧ (s.countIgnored).pending = s.pending := by
  unfold State.countIgnored
  simp

@[simp] theorem State.takeLine_frame (s : State) (job : JobId) (n : Nat) (l : LineRec) :
    (s.takeLine job n l).start = s.start ∧ (s.takeLine job n l).map = s.map ∧ (s.takeLine job n l).travel = s.travel ∧
      (s.takeLine job n l).staging = s.staging ∧ (s.takeLine job n l).arm = s.arm ∧ (s.takeLine job n l).plate = s.plate ∧
      (s.takeLine job n l).events = s.events ∧ (s.takeLine job n l).pins = s.pins ∧ (s.takeLine job n l).pending = s.pending := by
  unfold State.takeLine
  dsimp only
  (repeat' split) <;> simp

@[simp] theorem State.ownAdopt_frame (s : State) (job : JobId) :
    (s.ownAdopt job).start = s.start ∧ (s.ownAdopt job).travel = s.travel ∧ (s.ownAdopt job).divert = s.divert ∧
      (s.ownAdopt job).staging = s.staging ∧ (s.ownAdopt job).arm = s.arm ∧ (s.ownAdopt job).plate = s.plate ∧
      (s.ownAdopt job).pins = s.pins ∧ (s.ownAdopt job).pending = s.pending := by
  unfold State.ownAdopt
  (repeat' split) <;> simp

@[simp] theorem State.otherAdopt_frame (s : State) (job : JobId) :
    (s.otherAdopt job).start = s.start ∧ (s.otherAdopt job).claim = s.claim ∧ (s.otherAdopt job).map = s.map ∧
      (s.otherAdopt job).planner = s.planner ∧ (s.otherAdopt job).travel = s.travel ∧ (s.otherAdopt job).divert = s.divert ∧
      (s.otherAdopt job).staging = s.staging ∧ (s.otherAdopt job).arm = s.arm ∧ (s.otherAdopt job).plate = s.plate ∧
      (s.otherAdopt job).events = s.events ∧ (s.otherAdopt job).pins = s.pins ∧ (s.otherAdopt job).pending = s.pending := by
  unfold State.otherAdopt
  (repeat' split) <;> simp

@[simp] theorem State.settleOld_frame (s : State) (e : Sighting) :
    (s.settleOld e).start = s.start ∧ (s.settleOld e).map = s.map ∧ (s.settleOld e).travel = s.travel ∧
      (s.settleOld e).staging = s.staging ∧ (s.settleOld e).arm = s.arm ∧ (s.settleOld e).plate = s.plate ∧ (s.settleOld e).pins = s.pins ∧
      (s.settleOld e).pending = s.pending := by
  unfold State.settleOld
  (repeat' split) <;> simp

@[simp] theorem State.placeSighting_frame (s : State) (e : Sighting) :
    (s.placeSighting e).start = s.start ∧ (s.placeSighting e).bus = s.bus ∧ (s.placeSighting e).job = s.job ∧
      (s.placeSighting e).map = s.map ∧ (s.placeSighting e).planner = s.planner ∧ (s.placeSighting e).travel = s.travel ∧
      (s.placeSighting e).divert = s.divert ∧ (s.placeSighting e).staging = s.staging ∧ (s.placeSighting e).arm = s.arm ∧
      (s.placeSighting e).plate = s.plate ∧ (s.placeSighting e).events = s.events ∧ (s.placeSighting e).pins = s.pins ∧
      (s.placeSighting e).pending = s.pending := by
  unfold State.placeSighting
  simp

@[simp] theorem State.recordSighting_frame (s : State) (e : Sighting) :
    (s.recordSighting e).start = s.start ∧ (s.recordSighting e).job = s.job ∧ (s.recordSighting e).map = s.map ∧
      (s.recordSighting e).planner = s.planner ∧ (s.recordSighting e).travel = s.travel ∧ (s.recordSighting e).divert = s.divert ∧
      (s.recordSighting e).staging = s.staging ∧ (s.recordSighting e).arm = s.arm ∧ (s.recordSighting e).plate = s.plate ∧
      (s.recordSighting e).pins = s.pins ∧ (s.recordSighting e).pending = s.pending := by
  unfold State.recordSighting
  (repeat' split) <;> simp

@[simp] theorem State.takeSight_frame (s : State) (e : Sighting) :
    (s.takeSight e).start = s.start ∧ (s.takeSight e).map = s.map ∧ (s.takeSight e).travel = s.travel ∧
      (s.takeSight e).staging = s.staging ∧ (s.takeSight e).arm = s.arm ∧ (s.takeSight e).plate = s.plate ∧ (s.takeSight e).pins = s.pins ∧
      (s.takeSight e).pending = s.pending := by
  unfold State.takeSight
  dsimp only
  (repeat' split) <;> simp

theorem State.countClaim_frame (s : State) (e : Sighting) :
    (s.countClaim e).1.start = s.start ∧ (s.countClaim e).1.bus = s.bus ∧ (s.countClaim e).1.claim = s.claim ∧
      (s.countClaim e).1.map = s.map ∧ (s.countClaim e).1.planner = s.planner ∧ (s.countClaim e).1.travel = s.travel ∧
      (s.countClaim e).1.divert = s.divert ∧ (s.countClaim e).1.staging = s.staging ∧ (s.countClaim e).1.arm = s.arm ∧
      (s.countClaim e).1.plate = s.plate ∧ (s.countClaim e).1.events = s.events ∧ (s.countClaim e).1.pins = s.pins ∧
      (s.countClaim e).1.pending = s.pending := by
  unfold State.countClaim
  (repeat' split) <;> simp

@[simp] theorem State.winCase_frame (s : State) (e : Sighting) :
    (s.winCase e).start = s.start ∧ (s.winCase e).map = s.map ∧ (s.winCase e).travel = s.travel ∧ (s.winCase e).staging = s.staging ∧
      (s.winCase e).arm = s.arm ∧ (s.winCase e).plate = s.plate ∧ (s.winCase e).pins = s.pins ∧ (s.winCase e).pending = s.pending := by
  unfold State.winCase
  dsimp only
  have hc := s.countClaim_frame e
  (repeat' split) <;> simp [hc]

@[simp] theorem State.ownClaim_frame (s : State) (c : CaseId) (lap : Nat) :
    (s.ownClaim c lap).start = s.start ∧ (s.ownClaim c lap).map = s.map ∧ (s.ownClaim c lap).travel = s.travel ∧
      (s.ownClaim c lap).staging = s.staging ∧ (s.ownClaim c lap).arm = s.arm ∧ (s.ownClaim c lap).plate = s.plate ∧
      (s.ownClaim c lap).pins = s.pins ∧ (s.ownClaim c lap).pending = s.pending := by
  unfold State.ownClaim
  (repeat' split) <;> simp

@[simp] theorem State.otherClaim_frame (s : State) (sender : Station) (c : CaseId) (lap : Nat) :
    (s.otherClaim sender c lap).start = s.start ∧ (s.otherClaim sender c lap).job = s.job ∧ (s.otherClaim sender c lap).map = s.map ∧
      (s.otherClaim sender c lap).planner = s.planner ∧ (s.otherClaim sender c lap).travel = s.travel ∧
      (s.otherClaim sender c lap).divert = s.divert ∧ (s.otherClaim sender c lap).staging = s.staging ∧
      (s.otherClaim sender c lap).arm = s.arm ∧ (s.otherClaim sender c lap).plate = s.plate ∧
      (s.otherClaim sender c lap).events = s.events ∧ (s.otherClaim sender c lap).pins = s.pins ∧
      (s.otherClaim sender c lap).pending = s.pending := by
  unfold State.otherClaim
  (repeat' split) <;> simp

@[simp] theorem State.countForeign_frame (s : State) :
    (s.countForeign).start = s.start ∧ (s.countForeign).bus = s.bus ∧ (s.countForeign).job = s.job ∧ (s.countForeign).map = s.map ∧
      (s.countForeign).planner = s.planner ∧ (s.countForeign).travel = s.travel ∧ (s.countForeign).divert = s.divert ∧
      (s.countForeign).staging = s.staging ∧ (s.countForeign).arm = s.arm ∧ (s.countForeign).plate = s.plate ∧
      (s.countForeign).events = s.events ∧ (s.countForeign).pins = s.pins ∧ (s.countForeign).pending = s.pending := by
  unfold State.countForeign
  simp

@[simp] theorem State.otherRelease_frame (s : State) (sender : Station) (c : CaseId) (reason : Byte) :
    (s.otherRelease sender c reason).start = s.start ∧ (s.otherRelease sender c reason).job = s.job ∧
      (s.otherRelease sender c reason).map = s.map ∧ (s.otherRelease sender c reason).planner = s.planner ∧
      (s.otherRelease sender c reason).travel = s.travel ∧ (s.otherRelease sender c reason).divert = s.divert ∧
      (s.otherRelease sender c reason).staging = s.staging ∧ (s.otherRelease sender c reason).arm = s.arm ∧
      (s.otherRelease sender c reason).plate = s.plate ∧ (s.otherRelease sender c reason).events = s.events ∧
      (s.otherRelease sender c reason).pins = s.pins ∧ (s.otherRelease sender c reason).pending = s.pending := by
  unfold State.otherRelease
  (repeat' split) <;> simp

@[simp] theorem State.duplicate_frame (s : State) :
    (s.duplicate).map = s.map ∧ (s.duplicate).planner = s.planner ∧ (s.duplicate).travel = s.travel ∧ (s.duplicate).divert = s.divert ∧
      (s.duplicate).staging = s.staging ∧ (s.duplicate).arm = s.arm ∧ (s.duplicate).plate = s.plate ∧ (s.duplicate).pins = s.pins ∧
      (s.duplicate).pending = s.pending := by
  unfold State.duplicate
  (repeat' split) <;> simp

@[simp] theorem State.otherStatus_frame (s : State) (sender : Station) (f : StatusFields) :
    (s.otherStatus sender f).map = s.map ∧ (s.otherStatus sender f).planner = s.planner ∧ (s.otherStatus sender f).travel = s.travel ∧
      (s.otherStatus sender f).divert = s.divert ∧ (s.otherStatus sender f).staging = s.staging ∧ (s.otherStatus sender f).arm = s.arm ∧
      (s.otherStatus sender f).plate = s.plate ∧ (s.otherStatus sender f).pins = s.pins ∧ (s.otherStatus sender f).pending = s.pending := by
  unfold State.otherStatus
  (repeat' split) <;> simp

@[simp] theorem State.damaged_frame (s : State) (check inField : Bool) :
    (s.damaged check inField).start = s.start ∧ (s.damaged check inField).claim = s.claim ∧ (s.damaged check inField).job = s.job ∧
      (s.damaged check inField).map = s.map ∧ (s.damaged check inField).planner = s.planner ∧ (s.damaged check inField).travel = s.travel ∧
      (s.damaged check inField).divert = s.divert ∧ (s.damaged check inField).staging = s.staging ∧ (s.damaged check inField).arm = s.arm ∧
      (s.damaged check inField).plate = s.plate ∧ (s.damaged check inField).pins = s.pins ∧
      (s.damaged check inField).pending = s.pending := by
  unfold State.damaged
  (repeat' split) <;> simp

@[simp] theorem State.settleTest_frame (s : State) :
    (s.settleTest).start = s.start ∧ (s.settleTest).travel = s.travel ∧ (s.settleTest).pins = s.pins ∧ (s.settleTest).pending = s.pending := by
  unfold State.settleTest
  dsimp only
  (repeat' split) <;> simp

@[simp] theorem State.chooseMode_frame (s : State) :
    (s.chooseMode).start = s.start ∧ (s.chooseMode).bus = s.bus ∧ (s.chooseMode).claim = s.claim ∧ (s.chooseMode).job = s.job ∧
      (s.chooseMode).map = s.map ∧ (s.chooseMode).planner = s.planner ∧ (s.chooseMode).travel = s.travel ∧
      (s.chooseMode).divert = s.divert ∧ (s.chooseMode).staging = s.staging ∧ (s.chooseMode).arm = s.arm ∧
      (s.chooseMode).events = s.events ∧ (s.chooseMode).pins = s.pins ∧ (s.chooseMode).pending = s.pending := by
  unfold State.chooseMode
  simp

@[simp] theorem State.figures_frame (s : State) (raw : List RawCount) :
    (s.figures raw).start = s.start ∧ (s.figures raw).travel = s.travel ∧ (s.figures raw).pending = s.pending := by
  unfold State.figures
  simp

@[simp] theorem State.sampleTests_frame (s : State) :
    (s.sampleTests).start = s.start ∧ (s.sampleTests).travel = s.travel ∧ (s.sampleTests).pins = s.pins ∧
      (s.sampleTests).pending = s.pending := by
  unfold State.sampleTests
  simp

@[simp] theorem State.sample_frame (s : State) (raw : List RawCount) :
    (s.sample raw).start = s.start ∧ (s.sample raw).travel = s.travel ∧ (s.sample raw).pending = s.pending := by
  unfold State.sample
  simp

@[simp] theorem State.countUnexpected_frame (s : State) :
    (s.countUnexpected).start = s.start ∧ (s.countUnexpected).bus = s.bus ∧ (s.countUnexpected).claim = s.claim ∧
      (s.countUnexpected).job = s.job ∧ (s.countUnexpected).map = s.map ∧ (s.countUnexpected).planner = s.planner ∧
      (s.countUnexpected).travel = s.travel ∧ (s.countUnexpected).divert = s.divert ∧ (s.countUnexpected).staging = s.staging ∧
      (s.countUnexpected).plate = s.plate ∧ (s.countUnexpected).events = s.events ∧ (s.countUnexpected).pins = s.pins ∧
      (s.countUnexpected).pending = s.pending := by
  unfold State.countUnexpected
  simp

@[simp] theorem State.tellReady_frame (s : State) :
    (s.tellReady).start = s.start ∧ (s.tellReady).bus = s.bus ∧ (s.tellReady).claim = s.claim ∧ (s.tellReady).job = s.job ∧
      (s.tellReady).map = s.map ∧ (s.tellReady).travel = s.travel ∧ (s.tellReady).divert = s.divert ∧ (s.tellReady).staging = s.staging ∧
      (s.tellReady).arm = s.arm ∧ (s.tellReady).plate = s.plate ∧ (s.tellReady).events = s.events ∧ (s.tellReady).pins = s.pins ∧
      (s.tellReady).pending = s.pending := by
  unfold State.tellReady
  (repeat' split) <;> simp

@[simp] theorem State.compareGripper_frame (s : State) :
    (s.compareGripper).start = s.start ∧ (s.compareGripper).map = s.map ∧ (s.compareGripper).travel = s.travel ∧
      (s.compareGripper).divert = s.divert ∧ (s.compareGripper).arm = s.arm ∧ (s.compareGripper).plate = s.plate ∧
      (s.compareGripper).pins = s.pins ∧ (s.compareGripper).pending = s.pending := by
  unfold State.compareGripper
  (repeat' split) <;> simp

@[simp] theorem State.setPort_frame (s : State) (p : PortState) :
    (s.setPort p).start = s.start ∧ (s.setPort p).bus = s.bus ∧ (s.setPort p).claim = s.claim ∧ (s.setPort p).job = s.job ∧
      (s.setPort p).map = s.map ∧ (s.setPort p).planner = s.planner ∧ (s.setPort p).travel = s.travel ∧ (s.setPort p).divert = s.divert ∧
      (s.setPort p).staging = s.staging ∧ (s.setPort p).plate = s.plate ∧ (s.setPort p).events = s.events ∧ (s.setPort p).pins = s.pins ∧
      (s.setPort p).pending = s.pending := by
  unfold State.setPort
  simp

@[simp] theorem State.readyByPort_frame (s : State) (g : GripperState) :
    (s.readyByPort g).start = s.start ∧ (s.readyByPort g).travel = s.travel ∧ (s.readyByPort g).pins = s.pins ∧
      (s.readyByPort g).pending = s.pending := by
  unfold State.readyByPort
  (repeat' split) <;> simp

@[simp] theorem State.takeReady_frame (s : State) (g : GripperState) :
    (s.takeReady g).start = s.start ∧ (s.takeReady g).travel = s.travel ∧ (s.takeReady g).pins = s.pins ∧ (s.takeReady g).pending = s.pending := by
  unfold State.takeReady
  simp

@[simp] theorem State.watchFor_frame (s : State) (c : Outstanding) :
    (s.watchFor c).start = s.start ∧ (s.watchFor c).bus = s.bus ∧ (s.watchFor c).claim = s.claim ∧ (s.watchFor c).job = s.job ∧
      (s.watchFor c).map = s.map ∧ (s.watchFor c).planner = s.planner ∧ (s.watchFor c).travel = s.travel ∧
      (s.watchFor c).divert = s.divert ∧ (s.watchFor c).staging = s.staging ∧ (s.watchFor c).arm = s.arm ∧
      (s.watchFor c).events = s.events ∧ (s.watchFor c).pins = s.pins ∧ (s.watchFor c).pending = s.pending := by
  unfold State.watchFor
  (repeat' split) <;> simp

@[simp] theorem State.accepted_frame (s : State) (c : Outstanding) :
    (s.accepted c).start = s.start ∧ (s.accepted c).job = s.job ∧ (s.accepted c).map = s.map ∧ (s.accepted c).travel = s.travel ∧
      (s.accepted c).divert = s.divert ∧ (s.accepted c).events = s.events ∧ (s.accepted c).pins = s.pins ∧
      (s.accepted c).pending = s.pending := by
  unfold State.accepted
  simp

@[simp] theorem State.done_frame (s : State) (c : Outstanding) :
    (s.done c).start = s.start ∧ (s.done c).travel = s.travel ∧ (s.done c).pins = s.pins ∧ (s.done c).pending = s.pending := by
  unfold State.done
  simp

@[simp] theorem State.recordFault_frame (s : State) (number : BitVec 16) :
    (s.recordFault number).start = s.start ∧ (s.recordFault number).claim = s.claim ∧ (s.recordFault number).job = s.job ∧
      (s.recordFault number).map = s.map ∧ (s.recordFault number).planner = s.planner ∧ (s.recordFault number).travel = s.travel ∧
      (s.recordFault number).divert = s.divert ∧ (s.recordFault number).staging = s.staging ∧ (s.recordFault number).plate = s.plate ∧
      (s.recordFault number).pins = s.pins ∧ (s.recordFault number).pending = s.pending := by
  unfold State.recordFault
  simp

@[simp] theorem State.stopPort_frame (s : State) :
    (s.stopPort).start = s.start ∧ (s.stopPort).bus = s.bus ∧ (s.stopPort).claim = s.claim ∧ (s.stopPort).job = s.job ∧
      (s.stopPort).map = s.map ∧ (s.stopPort).travel = s.travel ∧ (s.stopPort).divert = s.divert ∧ (s.stopPort).staging = s.staging ∧
      (s.stopPort).plate = s.plate ∧ (s.stopPort).events = s.events ∧ (s.stopPort).pins = s.pins ∧ (s.stopPort).pending = s.pending := by
  unfold State.stopPort
  simp

@[simp] theorem State.faultBusy_frame (s : State) (c : Outstanding) (d : FaultDisposition) :
    (s.faultBusy c d).start = s.start ∧ (s.faultBusy c d).travel = s.travel ∧ (s.faultBusy c d).pins = s.pins ∧
      (s.faultBusy c d).pending = s.pending := by
  unfold State.faultBusy
  (repeat' split) <;> simp

@[simp] theorem State.faultAwaiting_frame (s : State) (c : Outstanding) (d : FaultDisposition) :
    (s.faultAwaiting c d).start = s.start ∧ (s.faultAwaiting c d).travel = s.travel ∧ (s.faultAwaiting c d).pins = s.pins ∧
      (s.faultAwaiting c d).pending = s.pending := by
  unfold State.faultAwaiting
  (repeat' split) <;> simp

@[simp] theorem State.faultIdle_frame (s : State) (d : FaultDisposition) :
    (s.faultIdle d).start = s.start ∧ (s.faultIdle d).map = s.map ∧ (s.faultIdle d).travel = s.travel ∧ (s.faultIdle d).divert = s.divert ∧
      (s.faultIdle d).arm = s.arm ∧ (s.faultIdle d).plate = s.plate ∧ (s.faultIdle d).pins = s.pins ∧
      (s.faultIdle d).pending = s.pending := by
  unfold State.faultIdle
  (repeat' split) <;> simp

end Sys2Proof.Machine
end

