-- ==== Sys2Proof/Laws/PerInstr.lean ====
section
/-! SUPPORT. What it is for the operands of each command to be ones its row can carry, one lemma a command. -/

namespace Sys2Proof.Laws.Operands

open Machine

/-- The bound on a command's operands in the words of the rules: nine raw counts a scan (R150), at most three wanted products
(R66), a frame refused by its kind, sender or length (R67), levels that make a damaged frame (R63), another station's frame voided
by a veto or a break (R64), and a malformed message (R134). Every other row takes whatever its fields hold. -/
def Fits : Instr → Prop
  | .configurationReadEnd _ scan => scan.length = 9
  | .plateSample scan => scan.length = 9
  | .cellStatus _ status => status.wanted.length ≤ 3
  | .refusedFrame kind sender length =>
    10 ≤ kind.toNat ∨ lengthAllowed kind.toNat length.toNat = false ∨ sender = 0 ∨ sender = 31
  | .damagedFrame levels => takeIn levels = .badCheck ∨ takeIn levels = .badLength ∨ ∃ a, takeIn levels = .missingFill a
  | .voidedFrame how => how = .veto ∨ how = .echoOnly ∨ how = .brk
  | .malformedMessage code length body check => body.length = length.toNat ∧ armTakeIn code length body check = none
  | _ => True

/-- A command is well-formed exactly when its operands fit its row. -/
def Statement (i : Instr) : Prop := i.wellFormed = true ↔ Fits i

theorem powerOnReset (straps : BitVec 5) : Statement (.powerOnReset straps) := ⟨fun _ => trivial, fun _ => rfl⟩

theorem resetLine (straps : BitVec 5) : Statement (.resetLine straps) := ⟨fun _ => trivial, fun _ => rfl⟩

theorem resetLineAsserted : Statement (.resetLineAsserted) := ⟨fun _ => trivial, fun _ => rfl⟩

theorem configurationReadEnd (memory : Option (List Byte)) (scan : List RawCount) :
    Statement (.configurationReadEnd memory scan) := beq_iff_eq

theorem joinTimerExpiry : Statement (.joinTimerExpiry) := ⟨fun _ => trivial, fun _ => rfl⟩

theorem palletPresentRise : Statement (.palletPresentRise) := ⟨fun _ => trivial, fun _ => rfl⟩

theorem palletPresentFall : Statement (.palletPresentFall) := ⟨fun _ => trivial, fun _ => rfl⟩

theorem forwardCount : Statement (.forwardCount) := ⟨fun _ => trivial, fun _ => rfl⟩

theorem reverseCount : Statement (.reverseCount) := ⟨fun _ => trivial, fun _ => rfl⟩

theorem encoderSkip : Statement (.encoderSkip) := ⟨fun _ => trivial, fun _ => rfl⟩

theorem speedWindowEnd : Statement (.speedWindowEnd) := ⟨fun _ => trivial, fun _ => rfl⟩

theorem lockAcquired : Statement (.lockAcquired) := ⟨fun _ => trivial, fun _ => rfl⟩

theorem enterStopped : Statement (.enterStopped) := ⟨fun _ => trivial, fun _ => rfl⟩

theorem caseStart : Statement (.caseStart) := ⟨fun _ => trivial, fun _ => rfl⟩

theorem laneEyeClear : Statement (.laneEyeClear) := ⟨fun _ => trivial, fun _ => rfl⟩

theorem plateSample (scan : List RawCount) : Statement (.plateSample scan) := beq_iff_eq

theorem plateSettled : Statement (.plateSettled) := ⟨fun _ => trivial, fun _ => rfl⟩

theorem verifyWindowEnd : Statement (.verifyWindowEnd) := ⟨fun _ => trivial, fun _ => rfl⟩

theorem evidenceWindowEnd : Statement (.evidenceWindowEnd) := ⟨fun _ => trivial, fun _ => rfl⟩

theorem disturbanceTimingExpiry : Statement (.disturbanceTimingExpiry) := ⟨fun _ => trivial, fun _ => rfl⟩

theorem disturbanceClearingExpiry : Statement (.disturbanceClearingExpiry) := ⟨fun _ => trivial, fun _ => rfl⟩

theorem overloadClearingExpiry : Statement (.overloadClearingExpiry) := ⟨fun _ => trivial, fun _ => rfl⟩

theorem quietTimerExpiry : Statement (.quietTimerExpiry) := ⟨fun _ => trivial, fun _ => rfl⟩

theorem collectTimeout : Statement (.collectTimeout) := ⟨fun _ => trivial, fun _ => rfl⟩

theorem stallTimeout : Statement (.stallTimeout) := ⟨fun _ => trivial, fun _ => rfl⟩

theorem drainComplete : Statement (.drainComplete) := ⟨fun _ => trivial, fun _ => rfl⟩

theorem jobCancel (sender : Station) (job : JobId) :
    Statement (.jobCancel sender job) := ⟨fun _ => trivial, fun _ => rfl⟩

theorem release (origin : Origin) (caseId : CaseId) (reason : Byte) :
    Statement (.release origin caseId reason) := ⟨fun _ => trivial, fun _ => rfl⟩

theorem releaseJobForm (origin : Origin) (job : JobId) (reason : Byte) :
    Statement (.releaseJobForm origin job reason) := ⟨fun _ => trivial, fun _ => rfl⟩

theorem claim (origin : Origin) (caseId : CaseId) (lap : Byte) :
    Statement (.claim origin caseId lap) := ⟨fun _ => trivial, fun _ => rfl⟩

theorem caseSight (sender : Station) (caseId : CaseId) (product : ProductCode) (mass length width height : BitVec 16) (lap : Byte) (age : BitVec 16) :
    Statement (.caseSight sender caseId product mass length width height lap age) := ⟨fun _ => trivial, fun _ => rfl⟩

theorem adopt (origin : Origin) (job : JobId) : Statement (.adopt origin job) := ⟨fun _ => trivial, fun _ => rfl⟩

theorem jobOffer (sender : Station) (job : JobId) (lineCount footprint : Byte) (heightLimit loadLimit : BitVec 16) :
    Statement (.jobOffer sender job lineCount footprint heightLimit loadLimit) := ⟨fun _ => trivial, fun _ => rfl⟩

theorem jobLine (sender : Station) (job : JobId) (line : Byte) (product : ProductCode) (ordered mass length width height : BitVec 16) (crushClass rank faceLock : Byte) :
    Statement (.jobLine sender job line product ordered mass length width height crushClass rank faceLock) := ⟨fun _ => trivial, fun _ => rfl⟩

theorem jobEnd (origin : Origin) (job : JobId) (outcome : Byte) (placed loadKg : BitVec 16) (short : Byte) :
    Statement (.jobEnd origin job outcome placed loadKg short) := ⟨fun _ => trivial, fun _ => rfl⟩

theorem shortLine (origin : Origin) (job : JobId) (line : Byte) (quantity : BitVec 16) :
    Statement (.shortLine origin job line quantity) := ⟨fun _ => trivial, fun _ => rfl⟩

theorem cellStatus (origin : Origin) (status : StatusFields) : Statement (.cellStatus origin status) := decide_eq_true_iff

theorem refusedFrame (kind : BitVec 4) (sender : Station) (length : BitVec 6) : Statement (.refusedFrame kind sender length) := by
  show frameRefused kind sender length.toNat = true ↔ _
  simp [frameRefused, Fits, or_assoc]

theorem damagedFrame (levels : List Bool) : Statement (.damagedFrame levels) := by
  show (match takeIn levels with
    | .badCheck => true
    | .badLength => true
    | .missingFill _ => true
    | _ => false) = true ↔ (takeIn levels = .badCheck ∨ takeIn levels = .badLength ∨ ∃ a, takeIn levels = .missingFill a)
  cases takeIn levels <;> simp

theorem voidedFrame (how : VoidCause) : Statement (.voidedFrame how) := by
  show decide (how ≠ .clash) = true ↔ (how = .veto ∨ how = .echoOnly ∨ how = .brk)
  cases how <;> simp

theorem lineIdle : Statement (.lineIdle) := ⟨fun _ => trivial, fun _ => rfl⟩

theorem lostArbitration : Statement (.lostArbitration) := ⟨fun _ => trivial, fun _ => rfl⟩

theorem attemptVoided (how : VoidCause) : Statement (.attemptVoided how) := ⟨fun _ => trivial, fun _ => rfl⟩

theorem ready (gripper : GripperState) : Statement (.ready gripper) := ⟨fun _ => trivial, fun _ => rfl⟩

theorem accept (tag : Byte) : Statement (.accept tag) := ⟨fun _ => trivial, fun _ => rfl⟩

theorem doneReport (tag : Byte) : Statement (.doneReport tag) := ⟨fun _ => trivial, fun _ => rfl⟩

theorem faultReport (tag : Byte) (disposition : FaultDisposition) (number : BitVec 16) :
    Statement (.faultReport tag disposition number) := ⟨fun _ => trivial, fun _ => rfl⟩

theorem hold : Statement (.hold) := ⟨fun _ => trivial, fun _ => rfl⟩

theorem clearHold : Statement (.clearHold) := ⟨fun _ => trivial, fun _ => rfl⟩

theorem statusRequest : Statement (.statusRequest) := ⟨fun _ => trivial, fun _ => rfl⟩

theorem mapRowRequest (row : Byte) : Statement (.mapRowRequest row) := ⟨fun _ => trivial, fun _ => rfl⟩

theorem malformedMessage (code length : Byte) (body : List Byte) (check : BitVec 16) :
    Statement (.malformedMessage code length body check) := by
  show (decide (body.length = length.toNat) && armMalformed code length body check) = true ↔
    (body.length = length.toNat ∧ armTakeIn code length body check = none)
  simp [armMalformed]

theorem acceptTimeout : Statement (.acceptTimeout) := ⟨fun _ => trivial, fun _ => rfl⟩

theorem doneTimeout : Statement (.doneTimeout) := ⟨fun _ => trivial, fun _ => rfl⟩

theorem commandSent : Statement (.commandSent) := ⟨fun _ => trivial, fun _ => rfl⟩

theorem statusReportSent : Statement (.statusReportSent) := ⟨fun _ => trivial, fun _ => rfl⟩

theorem mapRowReportSent : Statement (.mapRowReportSent) := ⟨fun _ => trivial, fun _ => rfl⟩

theorem planningPassStart : Statement (.planningPassStart) := ⟨fun _ => trivial, fun _ => rfl⟩

theorem planningPassEnd : Statement (.planningPassEnd) := ⟨fun _ => trivial, fun _ => rfl⟩

theorem statusTimerExpiry : Statement (.statusTimerExpiry) := ⟨fun _ => trivial, fun _ => rfl⟩

theorem holdoffExpiry : Statement (.holdoffExpiry) := ⟨fun _ => trivial, fun _ => rfl⟩

end Sys2Proof.Laws.Operands
end

