-- ==== Sys2Proof/Laws/Shared.lean ====
section
/-! SUPPORT. What each of the shared operations of the queue, of events, of staging and of the plate can do, said once: a proof cites the
lemma and does not unfold the operation. -/

namespace Sys2Proof.Machine

/-! ### The transmit queue (R68, R69) -/

/-- R68, R69: a placed frame stands in the order of the queue, WAITING, or SENDING on a line that was idle with no frame SENDING. -/
theorem Bus.place_cases (b : Bus) (p : TxPayload) (urgency : Nat) :
    b.place p urgency = b.insert (TxFrame.fresh p urgency) ∨
      (b.mode = .full ∧ b.idle = true ∧ b.sendingFrame = none ∧
        b.place p urgency =
          { b.insert { TxFrame.fresh p urgency with sending := true } with idle := false, drive := .recessive }) := by
  unfold Bus.place
  dsimp only
  split
  · rename_i h
    simp only [Bus.startsAtOnce, Bool.and_eq_true, decide_eq_true_eq, Option.isNone_iff_eq_none] at h
    exact .inr ⟨h.1.1.1, h.1.1.2, h.1.2, rfl⟩
  · exact .inl rfl

/-- R69, R77: a request is taken in line mode FULL with a place free in the frame's group, and then the frame is placed. -/
theorem Bus.tryQueue_eq_some {b b' : Bus} {p : TxPayload} {urgency : Nat} :
    b.tryQueue p urgency = some b' ↔ b.mode = .full ∧ b.inGroup p.group < p.group.places ∧ b.place p urgency = b' := by
  unfold Bus.tryQueue
  split
  · rename_i h
    simp [h]
  · rename_i h
    simp only [reduceCtorEq, false_iff, not_and]
    exact fun hm hp => absurd ⟨hm, hp⟩ h

/-! ### Own CLAIMs (R80, R84, R97) -/

/-- R80, R84: a payload is an entry's own CLAIM when it carries the entry's case id and lap. -/
@[simp] theorem Sighting.isOwnClaim_eq_true {e : Sighting} {p : TxPayload} :
    e.isOwnClaim p = true ↔ ∃ lap : Byte, lap.toNat = e.lap ∧ p = .claim e.caseId lap := by
  cases p with
  | claim c lap =>
    simp only [Sighting.isOwnClaim, decide_eq_true_eq, TxPayload.claim.injEq]
    exact ⟨fun h => ⟨lap, h.2, h.1, rfl⟩, fun ⟨_, h, hc, hl⟩ => ⟨hc, hl ▸ h⟩⟩
  | _ => simp [Sighting.isOwnClaim]

/-- R97: the own CLAIM of an entry has begun when a frame of its case id and lap is SENDING. -/
theorem Bus.claimBegun_eq_true {b : Bus} {e : Sighting} :
    b.claimBegun e = true ↔ ∃ f ∈ b.queue, f.sending = true ∧ ∃ lap : Byte, lap.toNat = e.lap ∧ f.payload = .claim e.caseId lap := by
  simp [Bus.claimBegun]

/-- R97: the withdrawal at a close leaves no own CLAIM WAITING. -/
theorem State.withdrawClaims_queue (s : State) {f : TxFrame} (hf : f ∈ s.withdrawClaims.bus.queue) (hc : isClaim f.payload = true) :
    f.sending = true := by
  simp only [State.withdrawClaims, List.mem_filter, Bool.or_eq_true, hc] at hf
  simpa using hf.2

/-- R90, R92: an own CLAIM heard second, for an entry of its lap that is not CLAIMING, only clears the flag. -/
theorem State.ownClaim_second {s : State} {c : CaseId} {e : Sighting} (h : s.sighting c = some e) (hs : e.state ≠ .claiming) :
    s.ownClaim c e.lap = s.updSighting c (fun e => { e with queued := false }) := by
  unfold State.ownClaim
  cases hx : e.state <;> simp_all

/-- R92: an own CLAIM returned to waiting is asked back where its entry is THEIRS, or FREE by the claimant's RELEASE (log 49). -/
theorem State.claimReturned_second {s : State} {c : CaseId} {lap : Byte} {e : Sighting} (h : s.sighting c = some e)
    (hl : e.lap = lap.toNat) (hs : (∃ o, e.state = .theirs o) ∨ e.state = .free) : s.claimReturned c lap = s.withdrawClaim c := by
  unfold State.claimReturned
  rcases hs with ⟨o, ho⟩ | ho <;> simp [h, hl, ho]

/-! ### Events (R167, R168) -/

theorem EventKind.number_lt (e : EventKind) : e.number < 24 := by cases e <;> decide

theorem EventKind.number_inj {a b : EventKind} (h : a.number = b.number) : a = b := by
  revert h
  cases a <;> cases b <;> decide

/-- R168, R173: the counters and the latched flags that an event leaves, by its class; a prompt status changes neither. -/
theorem State.raiseAs_events (s : State) (cls : EventClass) (e : EventKind) :
    (s.raiseAs cls e).events.counters =
        (if cls = .off then s.events.counters else s.events.counters.modify e.number sat8) ∧
      (s.raiseAs cls e).events.latched =
        (if cls = .deferred ∨ cls = .prompt then setBit s.events.latched e.number else s.events.latched) := by
  have bit : s.events.latched.getLsbD e.number = true → setBit s.events.latched e.number = s.events.latched := by
    intro h
    ext i hi
    simp only [setBit, BitVec.getElem_or, BitVec.getElem_twoPow]
    by_cases hie : i = e.number
    · subst hie
      simpa [← BitVec.getLsbD_eq_getElem] using h
    · simp [hie]
  cases cls
  case prompt =>
    by_cases h : s.events.latched.getLsbD e.number = true
    · simp [State.raiseAs, h, bit h, State.countEvent, State.setEvents]
    · cases hh : s.events.holdoff <;>
        simp [State.raiseAs, h, hh, State.countEvent, State.latchEvent, State.promptStatus, State.queueStatusNow, State.setEvents, State.setBus]
  all_goals simp [State.raiseAs, State.countEvent, State.latchEvent, State.setEvents]

/-- R167, R168: a raised event is raised once, and no other is. -/
theorem State.raise_once (s : State) (e : EventKind) : Safety.RaisedOnce e s (s.raise e) := by
  intro hs hl
  obtain ⟨h1, h2⟩ := s.raiseAs_events (s.classOf e) e
  have hr : s.raise e = s.raiseAs (s.classOf e) e := if_neg hs
  have hn : e.number < s.events.counters.length := hl ▸ EventKind.number_lt e
  have hb := EventKind.number_lt e
  change (s.raise e).events.counters.getD e.number 0 =
      (if s.classOf e = .off then s.events.counters.getD e.number 0 else min 255 (s.events.counters.getD e.number 0 + 1)) ∧
    (s.raise e).events.latched.getLsbD e.number =
      (s.events.latched.getLsbD e.number || decide (s.classOf e = .deferred ∨ s.classOf e = .prompt))
  rw [hr, h1, h2]
  cases s.classOf e <;> simp [sat8, setBit, hb, hn]

theorem State.raise_not (s : State) {e e' : EventKind} (h : e ≠ e') : Safety.NotRaised e' s (s.raise e) := by
  have hn : e.number ≠ e'.number := fun k => h (EventKind.number_inj k)
  unfold State.raise
  split
  · exact ⟨rfl, rfl⟩
  · obtain ⟨h1, h2⟩ := s.raiseAs_events (s.classOf e) e
    refine ⟨?_, ?_⟩
    · rw [h1]; split <;> simp [List.getD_eq_getElem?_getD, hn]
    · rw [h2]; split <;> simp [setBit, hn]

/-! ### The case of a command (R120, R131) -/

/-- R120, R131: the case of the outstanding command is the marked record at its source, or else the marked gripper record. -/
theorem State.commandCase_eq_some {s : State} {src place : Source} {r : CaseRecord} (h : s.commandCase src = some (place, r)) :
    s.caseAt place = some r ∧ r.mark.isSome = true ∧ (place = src ∨ place = .gripper) := by
  have marked : ∀ x : Source, (s.markedAt x).isSome = true → ∀ c, s.caseAt x = some c → c.mark.isSome = true := by
    intro x hx c hc
    simp only [State.markedAt, hc, Option.filter] at hx
    split at hx <;> simp_all
  simp only [State.commandCase, State.commandPlace] at h
  split at h
  · rename_i hs
    cases hc : s.caseAt src with
    | none => simp [hc] at h
    | some c =>
      simp only [Option.bind_some, hc, Option.map_some, Option.some.injEq, Prod.mk.injEq] at h
      obtain ⟨rfl, rfl⟩ := h
      exact ⟨hc, marked _ hs _ hc, .inl rfl⟩
  · split at h
    · rename_i hg
      cases hc : s.caseAt .gripper with
      | none => simp [hc] at h
      | some c =>
        simp only [Option.bind_some, hc, Option.map_some, Option.some.injEq, Prod.mk.injEq] at h
        obtain ⟨rfl, rfl⟩ := h
        exact ⟨hc, marked _ hg _ hc, .inr rfl⟩
    · simp at h

/-- R131: with no case of the command held, its removal, its move and its return change nothing. -/
theorem State.moves_of_absent {s : State} {src : Source} (h : s.commandCase src = none) (b : Nat) (d : GripDisposition) :
    s.removeCase src = s ∧ s.moveToBuffer src b = s ∧ s.holdInGripper src d = s ∧ s.returnCase src = s := by
  simp [State.removeCase, State.moveToBuffer, State.holdInGripper, State.returnCase, h]

/-! ### The sample in hand (R150, log 3) -/

/-- R150: a row of a test that only a sample can make is the sample in hand, or has no effect. -/
theorem State.sampleMeeting_cases (s : State) (meets : State → Bool) :
    s.sampleMeeting meets = s ∨ s.sampleMeeting meets = s.atExpiry s.plate.sampleLeft (fun u => u.sample s.pins.bridge) := by
  unfold State.sampleMeeting State.atExpiry
  split
  · exact .inl rfl
  · dsimp only
    split
    · exact .inr rfl
    · exact .inl rfl

/-- R157, R160: with no watch and no evidence request there is no window to close. -/
theorem State.closeWindows_of_none {s : State} (hw : s.plate.watch = none) (he : s.plate.evidence = none) : s.closeWindows = s := by
  simp [State.closeWindows, hw, he]

end Sys2Proof.Machine
end

