-- ==== Sys2Proof/Laws/Time.lean ====
section
/-! SUPPORT. The passing of time (00 "Timers"): none of it changes nothing, and what it leaves as it was. -/

namespace Sys2Proof.Machine

@[simp] theorem runDown_zero (t : Option Nat) : runDown 0 t = t := by cases t <;> rfl
@[simp] theorem runDown_none (d : Nat) : runDown d none = none := rfl
@[simp] theorem runDown_some (d n : Nat) : runDown d (some n) = some (n - d) := rfl

/-- No time passes, and nothing changes. -/
@[simp] theorem State.elapse_zero (s : State) : s.elapse 0 = s := by
  have h2 : (s.planner.pass.map fun p => { p with age := p.age + 0 }) = s.planner.pass := by
    cases s.planner.pass <;> simp
  simp only [State.elapse, runDown_zero, h2]
  simp

@[simp] theorem State.elapse_bus (s : State) (d : Nat) : (s.elapse d).bus = s.bus := rfl
@[simp] theorem State.elapse_claim (s : State) (d : Nat) : (s.elapse d).claim = s.claim := rfl
@[simp] theorem State.elapse_map (s : State) (d : Nat) : (s.elapse d).map = s.map := rfl
@[simp] theorem State.elapse_divert (s : State) (d : Nat) : (s.elapse d).divert = s.divert := rfl
@[simp] theorem State.elapse_pins (s : State) (d : Nat) : (s.elapse d).pins = s.pins := rfl
@[simp] theorem State.elapse_pending (s : State) (d : Nat) : (s.elapse d).pending = s.pending := rfl
@[simp] theorem State.elapse_cfg (s : State) (d : Nat) : (s.elapse d).start.cfg = s.start.cfg := rfl

/-- A stopped timer does not expire. -/
@[simp] theorem State.atExpiry_none (s : State) (f : State → State) : s.atExpiry none f = s := rfl

/-- A timer at its end expires with no time passing. -/
@[simp] theorem State.atExpiry_zero (s : State) (f : State → State) : s.atExpiry (some 0) f = f s := by simp [State.atExpiry]

end Sys2Proof.Machine
end

