-- ==== Sys2Proof/Tests/Slice0.lean ====
section
/-! SUPPORT. Tests: the ill-formed operands that each check refuses, worked figures of the spec on single steps, and for each
statement with hypotheses a state and operands that meet them. -/

namespace Sys2Proof.Tests

set_option Elab.async false

open Sys2Proof Sys2Proof.Machine

/-! ### States the tests start from -/

/-- A numbered part in IDLE with the line mode FULL. -/
def numbered : State :=
  { State.reset with
    start := { StartCtl.reset with state := .idle, station := some 9 }
    bus := { Bus.reset with mode := .full, receiving := true } }

/-- A line of two cases of product 10. -/
def line : LineRec :=
  { product := 10, ordered := 2, mass := 8000, length := 400, width := 300, height := 250, crushClass := 2, rank := 4,
    faceLock := false, claimed := 0, placed := 0, status := .lineOpen }

/-- Job 1042 with one line, in a phase. -/
def record (phase : JobPhase) : JobRecord :=
  { job := 1042, lineCount := 1, footprint := 0, effHeight := 1200, effLoad := 900000, phase := phase, outcome := none,
    stall := none, collect := none }

/-- The part with job 1042 in a phase on a TARED plate, its line in the build list. -/
def building (phase : JobPhase) : State :=
  { numbered with
    job := { JobUnit.reset with record := some (record phase), lines := JobUnit.reset.lines.set 0 (some line) }
    plate := { Plate.reset with state := .tared } }

/-- A sighting entry of case 501, product 10, 3,000 mm ahead, in a claim state. -/
def sighting (state : ClaimState) : Sighting :=
  { caseId := 501, product := 10, gate := { mass := 0, length := 0, width := 0, height := 0 }, lap := 0, arrival := 3000,
    state := state, queued := false, line := .absent }

/-- The case record of case 501, counted against line 0. -/
def held (mark : Option ArmCommand) : CaseRecord :=
  { caseId := some 501, product := some 10, gate := { mass := 0, length := 0, width := 0, height := 0 }, lap := some 0,
    line := .counted 0, staged := 0, mark := mark }

/-- A frame of the queue. -/
def queued (p : TxPayload) (sending : Bool) : TxFrame := { payload := p, urgency := 20, sending := sending, vetoes := 0 }

/-- A state with one frame SENDING. -/
def sending (s : State) (p : TxPayload) : State := { s with bus := { s.bus with queue := [queued p true] } }

/-- The outstanding command of case 501. -/
def command (a : Action) (source : Source) (progress : Progress) : Outstanding :=
  { action := a, tag := 7, caseId := some 501, source := source, line := .counted 0, progress := progress }

/-- The planning figures of a crate of 8,000 g. -/
def figures : Figures :=
  { m := 8000, length := 400, width := 300, h := 250, crushClass := 2, rank := 4, faceLock := false, line := 0 }

/-- The corner place of the empty deck. -/
def target : PlaceTarget := { col := 0, row := 0, turned := false, lc := 8, wr := 6, rest := 0, figures := figures }

/-- The state with the arm port in a state and a command outstanding. -/
def armed (s : State) (port : PortState) (cmd : Option Outstanding) : State := { s with arm := { s.arm with port := port, cmd := cmd } }

/-- A CELL STATUS with nothing in it. -/
def emptyStatus : StatusFields :=
  { cellState := 4, job := 0, lastSeq := 0, loadKg := 0, staged := 0, flags := 0, summary := 0, offset10 := 0, wanted := [] }

/-- The state that a command leaves, or the state itself. -/
def after (c : Instr) (s : State) : State :=
  match exec c s with
  | .next t => t
  | _ => s

/-- A frame of station 7: a CLAIM with urgency 40. -/
def frame : BusFrame := { kind := 2, urgency := 40, sender := 7, payload := [0, 1, 245, 0] }

/-! ### Operands that a row cannot carry -/

theorem test_read_needs_nine_counts : (Instr.configurationReadEnd none [1, 2]).wellFormed = false := by decide +kernel
theorem test_sample_needs_nine_counts : (Instr.plateSample []).wellFormed = false := by decide +kernel
theorem test_status_wants_three : (Instr.cellStatus .own { emptyStatus with wanted := [1, 2, 3, 4] }).wellFormed = false := by decide +kernel
theorem test_good_frame_is_not_refused : (Instr.refusedFrame 2 7 4).wellFormed = false := by decide +kernel
theorem test_good_frame_is_not_damaged : (Instr.damagedFrame frame.levels).wellFormed = false := by decide +kernel
theorem test_other_frame_has_no_clash : (Instr.voidedFrame .clash).wellFormed = false := by decide +kernel
theorem test_good_message_is_not_malformed : (Instr.malformedMessage 0x05 0 [] (armCheck 0x05 0 [])).wellFormed = false := by decide +kernel
theorem test_body_has_its_length : (Instr.malformedMessage 0x05 1 [] 0).wellFormed = false := by decide +kernel

/-! ### Frames and messages taken in (R61, R66, R134) -/

/-- 05 section 5.1: kind 2, urgency 40 and sender 7 in the arbitration field; the payload is the case id and the lap. -/
theorem test_claim_frame : frame.field = 0x2507 ∧ takeIn frame.levels = .good frame ∧ frame.command (.other 7) = .claim (.other 7) 501 0 := by
  decide +kernel

/-- R63: one payload level changed is a bad check. -/
theorem test_bit_error_is_bad_check : takeIn (frame.levels.modify 40 (!·)) = .badCheck := by decide +kernel

/-- R67: a kind of 10 or more is refused. -/
theorem test_kind_ten_is_refused : ({ frame with kind := 10 } : BusFrame).command (.other 7) = .refusedFrame 10 7 4 := by decide +kernel

/-- R134: a FAULT with disposition 2 is LOST, one with disposition 3 is malformed. -/
theorem test_fault_message :
    armTakeIn 0x04 4 [7, 2, 1, 3] (armCheck 0x04 4 [7, 2, 1, 3]) = some (.faultReport 7 .lost 259) ∧
      armTakeIn 0x04 4 [7, 3, 1, 3] (armCheck 0x04 4 [7, 3, 1, 3]) = none := by decide +kernel

/-! ### Worked figures of the spec -/

/-- 06 "Worked example: a rational travel step": N/R = 1,963/8, three forward counts and one back. -/
theorem test_rational_step :
    let t := ((TravelUnit.reset.forward 1963 8).forward 1963 8).forward 1963 8
    (t.count, t.um, t.rem) = (0, 736, 1) ∧ ((t.reverse 1963 8).um, (t.reverse 1963 8).rem) = (490, 6) := by decide +kernel

/-- 06 "Worked example: acquiring a belt at 1,500 mm/s": windows 2, 6 and 7. -/
theorem test_acquire_belt :
    stepSpeed 750 1500 2 = 1125 ∧ lockWindow 1453 1500 = false ∧ lockWindow 1476 1500 = true ∧ stepSpeed 1476 1500 2 = 1488 := by
  decide +kernel

/-- 09 worked example: case C, gains of 18,070 g, 7,000 g and 19,000 g over an open load of 168,050 g. -/
theorem test_verdicts :
    let w : Watch := { caseId := 1, line := .absent, m := 18000, open0 := 168050, phase := .settling, orphaned := false, doneAt := none }
    verdictOf w 186120 3 = .verified ∧ verdictOf w 175050 3 = .notLanded ∧ verdictOf w 187050 3 = .massMismatch 19000 := by decide +kernel

/-- 09 "A full sample": channel 0 of the settled sample reads 40,000 g. -/
theorem test_channel_mass : channelMass 512 40 0 128 80040 0 = 40000 := by decide +kernel

/-- 03 R46: the allowance example, Y_b = −200 with A_y = 189. -/
theorem test_recovering_allowance : axisPasses (-195) (-200) 189 = true ∧ axisPasses (-201) (-200) 189 = false := by decide +kernel

/-- R38: 400 × 300 mm covers 8 × 6 cells, 6 × 8 turned; R40: 800 × 700 mm fits in no orientation. -/
theorem test_footprints :
    (footColumns 400 300 false, footRows 400 300 false) = (8, 6) ∧ (footColumns 400 300 true, footRows 400 300 true) = (6, 8) ∧
      fitsSomewhere 0 800 700 false = false := by decide +kernel

/-- R23: ratings, and a reserve that saturates at 0. -/
theorem test_reserves : rating 3 = 6000 ∧ rating 7 = 0 ∧ newReserve [65535, 20000] 375 3 = 6000 ∧ reduceReserve 200 375 = 0 := by decide +kernel

/-! ### Single steps -/

/-- R175: strap values 0 and 31 leave the part unnumbered. -/
theorem test_straps : (after (.powerOnReset 31) numbered).start.station = none ∧ (after (.resetLine 30) numbered).start.station = some 30 := by
  decide +kernel

/-- R146 over R59: the last reason removed sets the planning request flag. -/
theorem test_clear_hold_sets_flag :
    (after .clearHold { numbered with planner := { Planner.reset with holds := { Holds.none with slip := true } } }).planner.flag = true := by
  decide +kernel

/-- R103: the lines A and B both change at a skipped state. -/
theorem test_skip : (after .encoderSkip numbered).pins.encoder = 2 := by decide +kernel

/-- R141: a FAULT with another tag in BUSY is only counted. -/
theorem test_fault_of_another_tag :
    (after (.faultReport 8 .lost 3) (armed numbered .busy (some (command .ret .lane .accepted)))).arm.unexpected = 1 := by decide +kernel

/-! ### States that meet the hypotheses of the statements, clause by clause -/

/-- The part with the reset line held. -/
def inReset : State := { State.reset with start := { StartCtl.reset with held := true } }

/-- The part in a start state. -/
def starting (state : StartState) : State := { numbered with start := { numbered.start with state := state } }

theorem test_witness_StepRunsTheFrontCommand : ({ numbered with pending := [.hold] } : State).pending = .hold :: [] := rfl

theorem test_witness_TimePassesUpToEachExpiry :
    (inReset.pending = [] ∧ inReset.start.held = true) ∧
    (let s := { numbered with start := { numbered.start with join := some 0 } }
     s.pending = [] ∧ s.start.held = false ∧ s.due = some .joinTimerExpiry) ∧
    (numbered.pending = [] ∧ numbered.start.held = false ∧ numbered.due = none) ∧
    (∃ s : State, s.start.join = some 5 ∧ s.travel.windowLeft = some 5 ∧ s.plate.sampleLeft = some 5 ∧ s.plate.verifyLeft = some 5 ∧
      s.plate.evidenceLeft = some 5 ∧ s.plate.quietLeft = some 5 ∧ s.events.status = some 5 ∧ s.events.holdoff = some 5) ∧
    (∃ s : State, s.job.record = some { record .active with stall := some 5, collect := some 5 } ∧ s.arm.port = .awaitAccept ∧
      s.arm.acceptTimer = some 5) ∧
    (∃ s : State, s.arm.port = .busy ∧ s.arm.doneTimer = some 5) ∧
    (numbered.travel.windowLeft = none ∧ numbered.plate.sampleLeft = none ∧ numbered.events.status = none ∧ numbered.events.holdoff = none) := by
  refine ⟨by decide, by decide, by decide, ?_, ?_, ?_, by decide⟩
  · exact ⟨{ numbered with
      start := { numbered.start with join := some 5 }
      travel := { numbered.travel with windowLeft := some 5 }
      plate := { numbered.plate with sampleLeft := some 5, verifyLeft := some 5, evidenceLeft := some 5, quietLeft := some 5 }
      events := { numbered.events with status := some 5, holdoff := some 5 } }, by decide⟩
  · exact ⟨{ numbered with
      job := { numbered.job with record := some { record .active with stall := some 5, collect := some 5 } }
      arm := { numbered.arm with port := .awaitAccept, acceptTimer := some 5 } }, by decide⟩
  · exact ⟨{ numbered with arm := { numbered.arm with port := .busy, doneTimer := some 5 } }, by decide⟩

theorem test_witness_FinishLeavesTheFieldAlone : Safety.Still numbered := by
  refine ⟨?_, ?_, ?_, ?_⟩ <;> simp [numbered, State.reset, Planner.reset, Holds.none, Holds.any, JobUnit.reset, Bus.reset]

theorem test_witness_HeldResetStandsStill : Safety.InReset inReset ∧ Safety.isReset .hold = false := ⟨rfl, rfl⟩

theorem test_witness_ConfigurationIsReadInRange :
    (∀ m0 m1 len rest, (some [0xC7, 0x32, 82] : Option (List Byte)) = some (m0 :: m1 :: len :: rest) → m0 ≠ 0xC7 ∨ m1 ≠ 0x31) ∧
    (let bs : List Byte := List.replicate 82 7
     (82 : Byte).toNat ≤ bs.length ∧ bs[0]? = some 7 ∧ bs[56]? = some 7 ∧ bs[57]? = some 7 ∧ (57 : Byte).toNat < 58) := by
  refine ⟨?_, by decide +kernel⟩
  intro m0 m1 len rest h
  simp only [Option.some.injEq, List.cons.injEq] at h
  exact .inr (by rw [← h.2.1]; decide)

theorem test_witness_ConfigurationReadEnds : State.reset.start.state = .starting ∧ State.reset.start.held = false := ⟨rfl, rfl⟩

theorem test_witness_JoiningEndsInIdle :
    let s := { starting .joining with start := { (starting .joining).start with join := some 0 } }
    s.start.state = .joining ∧ s.start.join = some 0 := ⟨rfl, rfl⟩

theorem test_witness_LockoutStaysUntilReset :
    let s := { numbered with start := { numbered.start with lockout := true } }
    s.start.lockout = true ∧ Safety.isReset .encoderSkip = false ∧ exec .encoderSkip s = .next (after .encoderSkip s) := ⟨rfl, rfl, rfl⟩

theorem test_witness_PalletFallTearsDownEndedJob :
    (State.reset.start.state = .starting ∧ State.reset.job.record = none) ∧
    (numbered.start.state ≠ .starting ∧ numbered.plate.state ≠ .tared ∧ numbered.job.record = none) ∧
    (let s := building .ended
     s.start.state ≠ .starting ∧ s.plate.state = .tared ∧ s.plate.watch = none ∧ s.plate.evidence = none ∧
      s.job.record = some (record .ended) ∧ (record .ended).phase = .ended ∧ (record .ended).outcome ≠ some .aborted ∧ s.job.offer = none) := by
  decide

theorem test_witness_PalletFallAbortsJob :
    let s := building .active
    s.start.state ≠ .starting ∧ s.job.record = some (record .active) ∧ (record .active).phase ≠ .ended := by decide

/-- The figures, the event table and the entries in transit of an abort. -/
theorem test_witness_PalletFallAbortsJob_clauses :
    let b := building .active
    let s := { b with claim := { b.claim with sightings := [sighting .ours, { sighting .diverting with caseId := 502 }] } }
    s.job.lines.length = 64 ∧ ((s.job.lines.filterMap id).map (fun l => l.placed)).sum ≤ 65535 ∧ s.map.mTot / 1000 ≤ 65535 ∧
    s.job.endReports.length < 130 ∧ s.events.counters.length = 24 ∧
    s.start.cfg.classes.getD EventKind.palletLost.number .off = .prompt ∧
    (s.claim.sightings.map (fun e => e.caseId)).Nodup ∧ s.claim.sightings.length ≤ 16 ∧ sighting .ours ∈ s.claim.sightings ∧
    (sighting .ours).state = .ours ∧ s.bus.mode = .full ∧ s.claim.backlog = [] := by decide

/-- A watch OPEN and one SETTLING at the departure from TARED, and an evidence request that is running. -/
theorem test_witness_PalletFallAbortsJob_watch :
    let w := fun (phase : WatchPhase) =>
      ({ caseId := 501, line := .counted 0, m := 8000, open0 := 0, phase := phase, orphaned := false, doneAt := none } : Watch)
    let ev : Evidence := { caseId := 501, m := 8000, r0 := 0, askedAt := 0 }
    let s := fun (x : Option Watch) (y : Option Evidence) =>
      armed { building .active with plate := { (building .active).plate with watch := x, evidence := y } } .ready
        (some (command (.place target) .lane .resolving))
    (∀ phase ∈ [WatchPhase.opened, .settling], (s (some (w phase)) none).plate.state = .tared ∧ (w phase).phase = phase ∧
      (s (some (w phase)) none).plate.watch = some (w phase) ∧ (s (some (w phase)) none).plate.evidence = none ∧ (w phase).orphaned = false) ∧
    (let u := s (some (w .opened)) (some ev)
     u.start.state ≠ .starting ∧ u.job.record = some (record .active) ∧ u.events.counters.length = 24 ∧ u.plate.evidence = some ev ∧
      u.arm.cmd = some (command (.place target) .lane .resolving) ∧ (command (.place target) .lane .resolving).caseId = some 501 ∧
      u.staging.gripper = none ∧ u.bus.mode = .full ∧ u.claim.backlog = [] ∧ u.lineAt 0 = some line ∧ u.claim.sightings = []) := by decide

/-- One witness at each end of the travel position: all digits 0, and the position one step short of its wrap. -/
theorem test_witness_ForwardCountAddsTheStep :
    State.reset.start.state = .starting ∧
    (numbered.start.state ≠ .starting ∧ numbered.travel.um < 1000 ∧ numbered.travel.rem < 1 ∧ numbered.start.cfg.stepN ≤ 4095 ∧
      numbered.start.cfg.stepP ≤ 3) ∧
    (let s := { numbered with travel := { numbered.travel with count := 4294967295, um := 999 } }
     s.start.state ≠ .starting ∧ s.travel.um < 1000 ∧ s.travel.rem < 1) := by decide

theorem test_witness_ReverseCountSubtractsTheStep :
    State.reset.start.state = .starting ∧
    (numbered.start.state ≠ .starting ∧ numbered.travel.um < 1000 ∧ numbered.travel.rem < 1) := by decide

theorem test_witness_OppositeCountsCancel : TravelUnit.reset.um < 1000 ∧ TravelUnit.reset.rem < 8 := by decide

theorem test_witness_SpeedWindowMovesTheLock :
    (let t := { TravelUnit.reset with windowLeft := some 0, window := 30000, v := 1499, lockRun := 7 }
     t.windowLeft = some 0 ∧ t.lock = .unlocked ∧ 7 ≤ t.lockRun ∧ measuredSpeed t.window = 1500 ∧
      ((1500 : Int) - t.v).natAbs ≤ t.v / 32) ∧
    (let t := { TravelUnit.reset with windowLeft := some 0, stopRun := 24 }
     t.windowLeft = some 0 ∧ t.lock = .unlocked ∧ 24 ≤ t.stopRun ∧ measuredSpeed t.window = 0) := by decide

/-- R111: the entry to STOPPED raises LOCK CHANGED and BELT STOPPED, the entry to LOCKED the first alone, a steady window neither. -/
theorem test_lock_events :
    let counts := fun (t : TravelUnit) =>
      let u := (after .speedWindowEnd { numbered with travel := { t with windowLeft := some 0 } }).events.counters
      (u.getD EventKind.lockChanged.number 0, u.getD EventKind.beltStopped.number 0)
    numbered.start.state ≠ .starting ∧ numbered.events.counters.length = 24 ∧
    counts { TravelUnit.reset with stopRun := 24 } = (1, 1) ∧
    counts { TravelUnit.reset with window := 30000, v := 1499, lockRun := 7 } = (1, 0) ∧
    counts { TravelUnit.reset with window := 30000, v := 1499, lock := .locked } = (0, 0) := by decide +kernel

/-- The schedule entry of case 501 in a phase, its arrival at 3,000 mm. -/
def scheduled (phase : DivertPhase) (fire : Option TravelMm) : DivertEntry :=
  { caseId := 501, arrival := 3000, belt := 400, phase := phase, fire := fire }

/-- Case 501 in the table and the schedule, the running travel at `count`. -/
def travelling (state : ClaimState) (d : DivertEntry) (count : TravelMm) : State :=
  { numbered with
    claim := { numbered.claim with sightings := [sighting state] }
    divert := [d]
    travel := { numbered.travel with count := count } }

theorem test_witness_CaseStartConfirmsOrIsStray :
    let s := travelling .diverting (scheduled .fired (some 2700)) 2900
    (s.start.state ≠ .starting ∧
      s.divert.find? (fun d => decide ((d.phase = .fired ∨ d.phase = .spent) ∧ d.fire ≠ none ∧
        0 ≤ (s.travel.count - (d.arrival - 100)).toInt ∧
        ¬ 0 < (s.travel.count - (d.arrival + BitVec.ofNat 32 (d.belt + s.start.cfg.confirmTail))).toInt)) =
          some (scheduled .fired (some 2700)) ∧
      s.sighting 501 = some (sighting .diverting)) ∧
    numbered.divert.find? (fun d => decide (d.fire ≠ none)) = none := by decide

theorem test_witness_LoneCaseIsArmedAndFired :
    let d := scheduled .waiting none
    let x := sighting .ours
    let ahead := fun (s : State) => (d.arrival - s.travel.count).toInt
    let past := fun (s : State) (mm : Nat) => 0 < (s.travel.count - (d.arrival + BitVec.ofNat 32 mm)).toInt
    let ready := fun (s : State) =>
      s.divert = [d] ∧ d.phase = .waiting ∧ d.fire = none ∧ s.claim.sightings = [x] ∧ x.caseId = d.caseId ∧ x.state = .ours ∧
        ¬ past s (d.belt + s.start.cfg.confirmTail) ∧ s.lead = 0
    let full := fun (s : State) => { s with staging := { s.staging with lane := List.replicate 6 (held none) } }
    let case := travelling .ours d
    (ready (case 2899) ∧ 100 < ahead (case 2899)) ∧ (ready (case 2900) ∧ ahead (case 2900) ≤ 100 ∧ 0 < ahead (case 2900)) ∧
    (ready (case 3000) ∧ ahead (case 3000) ≤ 0 ∧ ¬ past (case 3000) d.belt ∧ ¬ 6 ≤ (case 3000).staging.lane.length) ∧
    (ready (full (case 3000)) ∧ ¬ past (full (case 3000)) d.belt ∧ 6 ≤ (full (case 3000)).staging.lane.length) ∧
    (ready (case 3401) ∧ ahead (case 3401) ≤ 0 ∧ past (case 3401) d.belt) := by decide

/-- R115, R117: at the off point, 3,400 mm, the case is still FIRED, and 1 mm on it is SPENT; at its window's end, 3,700 mm, it stands, and
1 mm on it is MISSED, released, uncounted, and DIVERT MISSED is raised. The numbers follow from arrival 3,000, belt length 400, tail 300. -/
theorem test_lone_case_boundaries :
    let d := scheduled .fired (some 2990)
    let at_ := fun (d : DivertEntry) (count : TravelMm) =>
      ({ building .active with
         claim := { numbered.claim with sightings := [{ sighting .diverting with line := .counted 0 }] }
         job := { (building .active).job with lines := JobUnit.reset.lines.set 0 (some { line with claimed := 1 }) }
         divert := [d]
         travel := { numbered.travel with count := count } } : State).travelChanged
    let spent := { d with phase := .spent }
    let missed := at_ spent 3701
    (at_ d 3400).divert = [d] ∧ (at_ d 3400).valve = true ∧ (at_ d 3401).divert = [spent] ∧ (at_ d 3401).valve = false ∧
    (at_ spent 3700).divert = [spent] ∧ missed.divert = [] ∧ missed.claim.sightings = [] ∧
    missed.bus.queue.map (fun f => f.payload) = [.release 501 2] ∧ missed.lineAt 0 = some line ∧
    missed.events.counters.getD EventKind.divertMissed.number 0 = 1 := by decide +kernel

/-- R85: at the window's end, 3,700 mm, every entry stands; 1 mm on a FREE, THEIRS or CLAIMING one is gone, with the CLAIM of the last. -/
theorem test_sightings_pass :
    let at_ := fun (st : ClaimState) (count : TravelMm) =>
      ({ numbered with
         bus := { numbered.bus with queue := [queued (.claim 501 0) false] }
         claim := { numbered.claim with sightings :=
           [{ sighting st with gate := { mass := 0, length := 400, width := 0, height := 0 }, queued := decide (st = .claiming) }] }
         travel := { numbered.travel with count := count } } : State).travelChanged
    let left := fun (st : ClaimState) (count : TravelMm) => ((at_ st count).claim.sightings.length, (at_ st count).bus.queue.length)
    left .free 3700 = (1, 1) ∧ left .claiming 3700 = (1, 1) ∧ left .free 3701 = (0, 1) ∧ left (.theirs 4) 3701 = (0, 1) ∧
    left .claiming 3701 = (0, 0) ∧ left .ours 3701 = (1, 1) := by decide +kernel

theorem test_witness_FramesSeenDriveTheMuteState :
    let muted := { numbered with bus := { numbered.bus with muted := true, history := List.replicate 32 ⟨false, true⟩ } }
    numbered.bus.history.length ≤ 32 ∧ numbered.bus.muted = false ∧ muted.bus.history.length ≤ 32 ∧ muted.bus.muted = true := by decide

theorem test_witness_FramesThatReachNoBlock :
    let p : TxPayload := .shortLine 1042 0 2
    let s := sending numbered p
    (numbered.bus.hears = true ∧ (numbered.bus.mode ≠ .off ∧ numbered.bus.receiving = true) ∧ lengthAllowed 2 5 = false ∧ (7 : Station) ≠ 0 ∧ (7 : Station) ≠ 31) ∧ State.reset.bus.hears = false ∧ ({ numbered.bus with mode := .listen, receiving := false } : Bus).hears = false ∧
    s.bus.sendingFrame = some (queued p true) ∧ (queued p true).payload = p := by decide

/-- The levels of a frame whose length field reads 63. -/
def longLevels : List Bool := stuff true 0 (false :: natBits 16 frame.field ++ natBits 6 63)

/-- Each kind of damage: in the check, in the length, and a fill bit missing in and after the arbitration field. -/
theorem test_witness_DamagedFramesAreVetoedAndEchoed :
    numbered.bus.hears = true ∧ numbered.bus.muted = false ∧ numbered.bus.mode = .full ∧
    takeIn (frame.levels.modify 40 (!·)) = .badCheck ∧ takeIn longLevels = .badLength ∧
    takeIn (List.replicate 6 false) = .missingFill true ∧
    takeIn (frame.levels.take 20 ++ List.replicate 6 true) = .missingFill false ∧
    { numbered with bus := { numbered.bus with muted := true } }.bus.muted = true := by decide +kernel

theorem test_witness_IdleLineBeginsTheFirstFrame :
    let p : TxPayload := .adopt 1042
    let s := { numbered with bus := { numbered.bus with queue := [queued p false] } }
    let l := { numbered with bus := { numbered.bus with mode := .listen } }
    (s.planner.result = none ∧ s.planner.holds.any = false ∧ s.job.record = none ∧ s.bus.mode = .full ∧
      s.bus.queue = queued p false :: [] ∧ s.bus.sendingFrame = none ∧ (∀ c lap, (queued p false).payload ≠ .claim c lap)) ∧
    (l.planner.result = none ∧ l.planner.holds.any = false ∧ l.job.record = none ∧ l.bus.mode = .listen ∧ l.bus.sendingFrame = none) := by
  refine ⟨⟨rfl, rfl, rfl, rfl, rfl, rfl, ?_⟩, by decide⟩
  intro c lap h
  exact TxPayload.noConfusion h

/-- In an ACTIVE job, a CLAIM of case 501 at the head of the queue, its entry CLAIMING `ahead` mm from here. -/
def claimAtHead (ahead : TravelMm) : State :=
  { building .active with
    bus := { numbered.bus with queue := [queued (.claim 501 0) false] }
    claim := { numbered.claim with sightings := [{ sighting .claiming with arrival := ahead, queued := true }] } }

theorem test_witness_IdleLineBeginsTheFirstFrame_claim :
    numbered.start.cfg.claimMargin = 800 ∧
    (let s := claimAtHead 801
     s.planner.result = none ∧ s.planner.holds.any = false ∧ s.job.record = some (record .active) ∧ (record .active).phase = .active ∧
      s.bus.sendingFrame = none ∧ s.bus.mode = .full ∧ s.bus.queue = [queued (.claim 501 0) false] ∧ (s.claim.sightings.map (fun e => e.caseId)).Nodup ∧
      s.claimStands 501 0 = true) ∧
    (let s := claimAtHead 800
     s.bus.sendingFrame = none ∧ s.bus.mode = .full ∧ s.bus.queue = [queued (.claim 501 0) false] ∧ s.claimStands 501 0 = false) := by
  decide

theorem test_witness_FailedAttemptsReturnOrDrop :
    (sending numbered (.adopt 1042)).bus.sendingFrame = some (queued (.adopt 1042) true) ∧
    (queued (.release 501 1) true).payload.group = .reportGroup ∧
    (sending numbered (.release 501 1)).bus.sendingFrame = some (queued (.release 501 1) true) ∧
    (queued (.release 501 1) true).vetoes + 1 < 8 ∧ 8 ≤ ({ queued (.release 501 1) true with vetoes := 7 } : TxFrame).vetoes + 1 ∧
    -- what is driven: nothing by a muted part, an echo of a veto bit, a break at a clash
    ({ numbered with bus := { numbered.bus with muted := true } } : State).bus.muted = true ∧ numbered.bus.muted = false := by decide

/-- A CLAIM of case 501 SENDING, its entry in a state, in an ACTIVE job or in none; and a CELL STATUS SENDING with one pending. -/
theorem test_witness_FailedAttemptsReturnOrDrop_claims :
    let s := fun (b : State) (x : ClaimState) =>
      ({ sending b (.claim 501 0) with claim := { b.claim with sightings := [sighting x] } } : State)
    (∀ x ∈ [ClaimState.claiming, .theirs 7, .free, .ours, .diverting],
      (s (building .active) x).bus.sendingFrame = some (queued (.claim 501 0) true) ∧
      (s (building .active) x).sighting 501 = some (sighting x) ∧ (sighting x).state = x) ∧
    (sighting .claiming).lap = (0 : Byte).toNat ∧ (sighting .claiming).lap ≠ (1 : Byte).toNat ∧
    (sending numbered (.claim 501 0)).sighting 501 = none ∧
    ((s (building .active) .claiming).phase = some .active ∧ (s (building .active) .claiming).start.lockout = false) ∧
    (s numbered .claiming).phase ≠ some .active ∧
    (let t := sending numbered (.status emptyStatus)
     t.bus.sendingFrame = some (queued (.status emptyStatus) true) ∧ t.bus.pendingStatus = none ∧
      ({ t with bus := { t.bus with pendingStatus := some emptyStatus } } : State).bus.pendingStatus = some emptyStatus) := by decide

/-- R64: a veto bit read is echoed, an echo bit alone is not, and a part that is not numbered drives nothing in LISTEN. -/
theorem test_echo :
    (after (.voidedFrame .veto) numbered).bus.drive = .echo ∧ (after (.voidedFrame .echoOnly) numbered).bus.drive = .recessive := by
  decide +kernel

/-- R71, R73: an own CLAIM that is SENDING runs on while another station's CLAIM takes its case. -/
theorem test_claim_runs_on :
    let s := { sending numbered (.claim 501 0) with claim := { numbered.claim with sightings := [sighting .claiming] } }
    let t := after (.claim (.other 7) 501 0) s
    t.bus.sendingFrame = some (queued (.claim 501 0) true) ∧ t.claim.sightings.map (fun e => e.state) = [.theirs 7] := by decide +kernel

theorem test_witness_OwnFramesAreTakenInAsSent :
    1 ≤ (30 : Station).toNat ∧ (30 : Station).toNat ≤ 30 ∧ (queued (.claim 501 0) false).urgency ≤ 127 ∧
    (∀ fields, (queued (.claim 501 0) false).payload = .status fields → fields.wanted.length ≤ 3) := by
  refine ⟨by decide, by decide, by decide, ?_⟩
  intro fields h
  exact TxPayload.noConfusion h

/-! ### Jobs -/

/-- A part whose plate is TARED, with no job and no bid, and one that holds a bid for job 1042. -/
def bidding (bid : Option BidState) (cancelled : Bool) : State :=
  { numbered with
    plate := { Plate.reset with state := .tared }
    job := { JobUnit.reset with
      offer := bid.map (fun b =>
        { job := 1042, lineCount := 1, footprint := 0, heightLimit := 1200, loadLimit := 0, bid := b, cancelled := cancelled }) } }

theorem test_witness_OfferIsBidFor :
    let u := Safety.heardFrom (bidding none false)
    (bidding none false).bus.hears = true ∧
    (u.start.state = .idle ∧ u.start.station ≠ none ∧ u.start.lockout = false ∧ u.job.record = none ∧ u.job.offer = none ∧
      u.plate.state = .tared ∧ (0 : Byte).toNat = u.start.cfg.footprint ∧ u.bus.mode = .full ∧ u.bus.inGroup .claimGroup < 4) ∧
    (Safety.heardFrom numbered).plate.state ≠ .tared := by decide

theorem test_witness_AdoptHeardDecidesTheBid :
    let s := bidding (some .queued) false
    let own := sending (bidding (some .sending) false) (.adopt 1042)
    let marked := sending (bidding (some .sending) true) (.adopt 1042)
    (s.bus.hears = true ∧ s.bus.sendingFrame = none ∧ ((Safety.heardFrom s).job.offer.map (fun o => (o.job, o.bid))) = some (1042, .queued)) ∧
    (∀ o, (Safety.heardFrom numbered).job.offer = some o → o.job ≠ 1042) ∧
    (own.bus.sendingFrame = some (queued (.adopt 1042) true) ∧ (own.job.offer.map (fun o => (o.job, o.cancelled))) = some (1042, false) ∧
      own.job.record = none ∧ own.plate.state = .tared ∧ own.start.lockout = false) ∧
    (marked.bus.sendingFrame = some (queued (.adopt 1042) true) ∧ (marked.job.offer.map (fun o => (o.job, o.cancelled))) = some (1042, true)) := by
  refine ⟨by decide, ?_, by decide, by decide⟩
  intro o h
  exact absurd h (by decide +revert)

theorem test_witness_AdoptHeardDecidesTheBid_sending :
    let s := sending (bidding (some .sending) false) (.adopt 1042)
    s.bus.hears = true ∧ ((Safety.heardFrom s).job.offer.map (fun o => (o.job, o.bid))) = some (1042, .sending) := by decide

theorem test_witness_JobLineIsCollected :
    let two : JobRecord := { record .collecting with lineCount := 2 }
    let s := { numbered with job := { numbered.job with record := some two } }
    let u := Safety.heardFrom s
    (s.bus.hears = true ∧ (Safety.heardFrom numbered).job.record = none) ∧
    (u.job.record = some two ∧ two.job ≠ 1043 ∧ two.job = 1042 ∧ two.phase = .collecting ∧ two.lineCount ≤ 2 ∧ 1 < two.lineCount) ∧
    (∃ i, i < two.lineCount ∧ (u.job.lines.set 1 (some line)).getD i none = none) ∧
    ((Safety.heardFrom (building .active)).job.record = some (record .active) ∧ (record .active).phase ≠ .collecting) := by
  refine ⟨by decide, by decide, ⟨0, by decide⟩, by decide⟩

theorem test_witness_LastLineStartsTheBuild :
    let s := { building .collecting with job := { (building .collecting).job with lines := JobUnit.reset.lines } }
    let r := record .collecting
    let lines := s.job.lines.set 0 (some line)
    s.job.record = some r ∧ r.phase = .collecting ∧ 0 < r.lineCount ∧ r.lineCount ≤ 64 ∧ s.job.lines.length = 64 ∧
    (∀ i, i < r.lineCount → lines.getD i none ≠ none) ∧ lines.getD 0 none = some line ∧
    ¬ line.ordered = 0 ∧ ¬ r.effHeight < line.height ∧ fitsSomewhere r.footprint line.length line.width line.faceLock = true := by
  decide

/-- The same list with its one line DONE from the start, or too high for the job. -/
theorem test_witness_LastLineStartsTheBuild_closes :
    let lines := fun (l : LineRec) => JobUnit.reset.lines.set 0 (some l)
    let low : LineRec := { line with ordered := 0 }
    let high : LineRec := { line with height := 1201 }
    low.ordered = 0 ∧ (∀ i, i < 64 → ((lines low).getD i none).all (fun l => decide (l.ordered = 0)) = true) ∧
    ¬ high.ordered = 0 ∧ (record .collecting).effHeight < high.height ∧
    (∀ i, i < 64 → ((lines high).getD i none).all (fun l => decide (1200 < l.height)) = true) := by decide

theorem test_witness_JobCancelClosesTheJob :
    let s := building .active
    (s.bus.hears = true ∧ s.bus.sendingFrame = none ∧ (s.claim.sightings.map (fun e => e.caseId)).Nodup ∧
      (Safety.heardFrom s).job.record = some (record .active)) ∧
    (Safety.heardFrom (building .closing)).job.record = some (record .closing) ∧
    ((Safety.heardFrom (bidding (some .queued) false)).job.record = none ∧
      ((Safety.heardFrom (bidding (some .queued) false)).job.offer.map (fun o => (o.job, o.bid))) = some (1042, .queued)) ∧
    ((Safety.heardFrom numbered).job.record = none ∧ (Safety.heardFrom numbered).job.offer = none) := by decide

/-- R84, R97: with a CLAIM of the old lap SENDING, the re-sighted entry's own CLAIM is withdrawn at the cancel, and the entry is FREE. -/
theorem test_cancel_judges_the_lap :
    let b := building .active
    let old := queued (.claim 501 0) true
    let s := { b with
      bus := { b.bus with queue := [old, queued (.claim 501 1) false] }
      claim := { b.claim with sightings := [{ sighting .claiming with lap := 1, queued := true }] } }
    let t := after (.jobCancel 2 1042) s
    t.claim.sightings.map (fun e => (e.state, e.queued)) = [(.free, false)] ∧ t.bus.sendingFrame = some old := by decide +kernel

theorem test_witness_JobCancelClosesTheJob_begun :
    let s := sending (bidding (some .sending) false) (.adopt 1042)
    s.bus.hears = true ∧ (Safety.heardFrom s).job.record = none ∧ (Safety.heardFrom s).bus.withdrawAnswer (isAdoptOf 1042) = .begun ∧
    ((Safety.heardFrom s).job.offer.map (fun o => (o.job, o.bid))) = some (1042, .sending) := by decide

theorem test_witness_JobTimersEndTheirPhase :
    let r : JobRecord := { record .collecting with collect := some 0 }
    let a : JobRecord := { record .active with stall := some 0 }
    (r.phase = .collecting ∧ r.collect = some 0 ∧ numbered.bus.mode = .full ∧ numbered.bus.inGroup .reportGroup < 7) ∧
    (a.phase = .active ∧ a.stall = some 0 ∧ (numbered.claim.sightings.map (fun e => e.caseId)).Nodup) := by decide

theorem test_witness_DrainEndsTheJob :
    let s := building .closing
    let r : JobRecord := { record .closing with outcome := some .complete }
    let a : JobRecord := { record .ended with outcome := some .aborted }
    (s.staging.lane = [] ∧ (∀ b ∈ s.staging.buffer, b = none) ∧ s.staging.gripper = none ∧
      (∀ e ∈ s.claim.sightings, e.state ≠ .ours ∧ e.state ≠ .diverting) ∧ s.map.prov = none ∧ s.plate.watch = none ∧ s.arm.cmd = none) ∧
    (r.phase = .closing ∧ r.outcome = some .complete ∧ JobOutcome.complete ≠ .aborted) ∧ (a.phase = .ended ∧ a.outcome = some .aborted) ∧
    (record .active).phase = .active := by decide

/-- Something left: a staged case, a case OURS, and a placement in flight. -/
theorem test_witness_DrainEndsTheJob_left :
    let s := building .closing
    ({ s with staging := { s.staging with lane := [held none] } } : State).staging.lane ≠ [] ∧
    (∃ b ∈ ({ s with staging := { s.staging with buffer := [some (held none), none, none, none] } } : State).staging.buffer, b ≠ none) ∧
    (∃ e ∈ ({ s with claim := { s.claim with sightings := [sighting .ours] } } : State).claim.sightings,
      e.state = .ours ∨ e.state = .diverting) ∧
    (armed s .busy (some (command (.place target) .lane .accepted))).arm.cmd = some (command (.place target) .lane .accepted) ∧
    (command (.place target) .lane .accepted).action.command = .place ∧
    (∀ r, (building .active).job.record = some r → r.phase = .active) ∧ numbered.job.record = none := by
  refine ⟨by decide, ⟨some (held none), by decide⟩, ⟨sighting .ours, by decide⟩, rfl, rfl, ?_, rfl⟩
  intro r h
  cases h
  rfl

theorem test_witness_EndReportListsTheShortLines :
    let s := { building .ended with bus := { (building .ended).bus with mode := .listen } }
    s.job.endReports = [] ∧ s.bus.mode ≠ .full ∧ s.job.lines.length = 64 ∧ 3 ≤ 65535 ∧
    (∀ i, i < 64 → (s.job.lines.getD i none).all (fun l => decide (l.ordered ≤ 999)) = true) ∧
    s.job.lines.getD 0 none = some line ∧ line.placed < line.ordered := by decide

/-- The same in line mode FULL with the report group empty, and full, where the whole report is kept in the list. -/
theorem test_witness_EndReportListsTheShortLines_full :
    let s := building .ended
    let f := { s with bus := { s.bus with queue := List.replicate 7 (queued (.release 501 1) false) } }
    s.job.endReports = [] ∧ s.bus.mode = .full ∧ s.bus.inGroup .reportGroup = 0 ∧ f.job.endReports = [] ∧ f.bus.mode = .full ∧
    7 ≤ f.bus.inGroup .reportGroup ∧ (s.reportEnd 1042 .short 3 24).job.endReports = [] ∧
    (f.reportEnd 1042 .short 3 24).job.endReports = [.jobEnd 1042 JobOutcome.short.code 3 24 1, .shortLine 1042 0 2] := by decide +kernel

/-! ### Sightings and claims -/

/-- Job 1042 ACTIVE with case 501 in the table. -/
def sighted (state : ClaimState) : State :=
  { building .active with claim := { (building .active).claim with sightings := [sighting state], interest := [10] } }

theorem test_witness_OwnClaimWinsTheCase :
    let s := sending (sighted .claiming) (.claim 501 0)
    let e := sighting .claiming
    s.bus.sendingFrame = some (queued (.claim 501 0) true) ∧ s.sighting 501 = some e ∧ e.state = .claiming ∧ e.lap = min 15 (0 : Byte).toNat ∧
    s.job.record = some (record .active) ∧ s.lineAt 0 = some line ∧ line.product = e.product ∧ line.status = .lineOpen ∧
    0 < line.ordered - line.placed - line.claimed ∧ s.divert = [] ∧ (s.lead + 100 : Nat) < (e.arrival - s.travel.count).toInt ∧
    (e.arrival - s.travel.count).toInt < 2 ^ 30 ∧ s.start.cfg.confirmTail ≤ 1000 := by decide

/-- The own CLAIM heard of a case not in the table, of another lap, and of entries THEIRS and FREE. -/
theorem test_witness_OwnClaimWinsTheCase_second :
    let s := fun (st : ClaimState) (lap : Byte) => sending (sighted st) (.claim 501 lap)
    (∀ st ∈ [ClaimState.theirs 7, .free], (s st 0).bus.sendingFrame = some (queued (.claim 501 0) true) ∧
      (s st 0).sighting 501 = some (sighting st) ∧ (sighting st).state = st ∧ (sighting st).lap = min 15 (0 : Byte).toNat) ∧
    (s .claiming 1).bus.sendingFrame = some (queued (.claim 501 1) true) ∧ (sighting .claiming).lap ≠ min 15 (1 : Byte).toNat ∧
    (let u := sending (building .active) (.claim 501 0)
     u.sighting 501 = none ∧ u.bus.mode = .full ∧ u.claim.backlog = [] ∧ u.bus.inGroup .reportGroup < 7) := by decide

theorem test_witness_OtherStationsTakeAndGiveUpCases :
    (sighted .free).bus.hears = true ∧ (sighted .free).bus.sendingFrame = none ∧ (sighted .free).sighting 502 = none ∧
    (sighted .free).sighting 501 = some (sighting .free) ∧ (sighted .claiming).sighting 501 = some (sighting .claiming) ∧
    (sighted (.theirs 7)).sighting 501 = some (sighting (.theirs 7)) ∧ (sighting .free).lap = min 15 (0 : Byte).toNat ∧
    (sighting .free).lap ≠ min 15 (1 : Byte).toNat ∧ ((1 : Byte) = 1 ∧ (2 : Byte) ≠ 1 ∧ (2 : Byte) ≠ 4) ∧
    (sighting .free).state ≠ .theirs 7 := by decide

theorem test_witness_OtherStationsTakeAndGiveUpCases_begun :
    let s := sending (sighted .claiming) (.claim 501 0)
    s.bus.hears = true ∧ (Safety.heardFrom s).bus.withdrawAnswer (isClaimOf 501) = .begun ∧ s.sighting 501 = some (sighting .claiming) ∧
    (Safety.heardFrom (sighted .claiming)).bus.withdrawAnswer (isClaimOf 501) ≠ .begun := by decide

/-- Case 501 THEIRS of station 7 with its flag yes, its own CLAIM still on the line (R92). -/
def outrun : State :=
  { sending (sighted .free) (.claim 501 0) with
    claim := { (sighted .free).claim with sightings := [{ sighting (.theirs 7) with queued := true }] } }

theorem test_witness_OtherStationsTakeAndGiveUpCases_flag :
    outrun.bus.hears = true ∧ outrun.sighting 501 = some { sighting (.theirs 7) with queued := true } ∧
    outrun.bus.sendingFrame = some (queued (.claim 501 0) true) ∧ (2 : Byte) ≠ 1 ∧ (2 : Byte) ≠ 4 := by decide

/-- R92 with log 49: the claimant's RELEASE makes the entry FREE with its flag; the flag becomes no where the attempt is accepted, and
where it is lost, and the frame is then out of the queue. -/
theorem test_flag_ends_with_the_attempt :
    let flags := fun (s : State) => s.claim.sightings.map (fun e => (e.state, e.queued))
    let freed := after (.release (.other 7) 501 2) outrun
    flags freed = [(.free, true)] ∧ flags (after (.claim .own 501 0) freed) = [(.free, false)] ∧
    (let t := after .lostArbitration freed
     flags t = [(.free, false)] ∧ t.bus.queue.all (fun f => !isClaim f.payload) = true) := by decide +kernel

/-- The table with 16 entries of distinct cases, the first THEIRS or not. -/
def fullTable (first : ClaimState) : State :=
  { sighted .free with
    claim := { (sighted .free).claim with
      sightings := { sighting first with caseId := 1 } ::
        (List.range 15).map (fun i => { sighting .ours with caseId := BitVec.ofNat 24 (i + 2) }) } }

theorem test_witness_CaseSightIsRecordedInOrder :
    let u := Safety.heardFrom (sighted .free)
    let e : Sighting := { sighting .free with caseId := 502, arrival := 900 }
    (sighted .free).bus.hears = true ∧
    (Safety.heardFrom { sighted .free with staging := { (sighted .free).staging with lane := [held none] } }).holdsCase 501 = true ∧
    (u.holdsCase 502 = false ∧ (11 : ProductCode) ∉ u.claim.interest ∧ (10 : ProductCode) ∈ u.claim.interest ∧ u.passedBy e = false ∧
      u.claim.sightings.length < 16) ∧
    ({ u with travel := { u.travel with count := 5000 } } : State).passedBy e = true ∧
    (16 ≤ (Safety.heardFrom (fullTable .ours)).claim.sightings.length ∧
      ∀ x ∈ (Safety.heardFrom (fullTable .ours)).claim.sightings, x.state.isTheirs = false) ∧
    (Safety.heardFrom (fullTable (.theirs 7))).claim.sightings.find? (fun x => x.state.isTheirs) =
      some { sighting (.theirs 7) with caseId := 1 } ∧
    u.travel.lock ≠ .locked := by decide

/-- Every condition of a claim at once: the part IDLE, the belt LOCKED, the job ACTIVE, an OPEN line, room and distance. -/
theorem test_witness_ClaimIsQueuedOnlyWhenAllHolds :
    let s := { sighted .free with travel := { (sighted .free).travel with lock := .locked } }
    let e := sighting .free
    s.sighting 501 = some e ∧ e.state = .free ∧ s.start.state = .idle ∧ s.start.station ≠ none ∧ s.start.lockout = false ∧
    s.travel.lock = .locked ∧ s.job.record = some (record .active) ∧ s.lineAt 0 = some line ∧ line.product = e.product ∧
    line.status = .lineOpen ∧ 0 < line.ordered - line.placed - line.claimed ∧
    planFigure 20 600 e.gate.height line.height + s.lowestTop ≤ (record .active).effHeight ∧
    s.map.standing.m + s.wonMass + plannedMass e.gate line ≤ (record .active).effLoad ∧
    (s.start.cfg.claimMargin : Int) < (e.arrival - s.travel.count).toInt ∧
    s.staging.lane.length + (s.claim.sightings.filter (fun o => o.state.taken)).length < 6 ∧
    (∀ o ∈ s.claim.sightings, o.state.taken = false) ∧ s.defers e.product = false ∧ s.bus.mode = .full ∧
    s.bus.inGroup .claimGroup < 4 := by decide +kernel

theorem test_witness_CellStatusByOriginAndSender :
    let joining := starting .joining
    let locked := { numbered with start := { numbered.start with lockout := true } }
    let s := sending numbered (.status emptyStatus)
    (numbered.bus.hears = true ∧ (Safety.heardFrom numbered).start.station ≠ some 7 ∧ (Safety.heardFrom numbered).start.station = some 9 ∧
      (Safety.heardFrom numbered).start.state = .idle ∧ (Safety.heardFrom numbered).start.lockout = false) ∧
    ((Safety.heardFrom joining).start.station = some 9 ∧ (Safety.heardFrom joining).start.state = .joining) ∧
    (Safety.heardFrom locked).start.lockout = true ∧ s.bus.sendingFrame = some (queued (.status emptyStatus) true) := by decide

/-- A part in IDLE, not locked out, with a bid queued, on the line and waiting for its state to be told, and with a CLAIM begun or not. -/
theorem test_witness_CellStatusByOriginAndSender_withdrawn :
    let s := fun (bid : BidState) (begun : Bool) =>
      ({ bidding (some bid) false with bus := { numbered.bus with queue := [queued (.adopt 1042) begun] } } : State)
    (∀ b ∈ [BidState.queued, .sending], ∀ x ∈ [true, false],
      ((s b x).job.offer.map (fun o => (o.job, o.bid))) = some (1042, b) ∧
      (s b x).bus.queue.filter (fun f => isAdoptOf 1042 f.payload) = [queued (.adopt 1042) x] ∧ (queued (.adopt 1042) x).sending = x ∧
      (Safety.heardFrom (s b x)).start.state = .idle ∧ (Safety.heardFrom (s b x)).start.lockout = false) ∧
    (sighted .claiming).claim.sightings[0]? = some (sighting .claiming) ∧
    (sending (sighted .claiming) (.claim 501 0)).bus.queue = [queued (.claim 501 0) true] ∧ (0 : Byte).toNat = (sighting .claiming).lap := by
  decide

/-! ### The arm port -/

/-- The provisional placement of case 501 at the corner of the empty deck. -/
def placing : State :=
  match (building .active).writeRequest 501 target with
  | some mp => { building .active with map := mp }
  | none => building .active

/-- A gripper record of case 501. -/
def gripper (cmd : Option ArmCommand) (d : GripDisposition) : Gripper := { held := held cmd, command := cmd, target := 0, disposition := d }

/-- The state with a case in the gripper record. -/
def gripping (s : State) (cmd : Option ArmCommand) (d : GripDisposition) : State :=
  { s with staging := { s.staging with gripper := some (gripper cmd d) } }

/-- The state with case 501 at the head of the lane. -/
def inLane (s : State) (mark : Option ArmCommand) : State := { s with staging := { s.staging with lane := [held mark] } }

theorem test_witness_ReadyOpensThePort :
    let unknown := armed (inLane (building .active) (some .setAside)) .stopped (some (command (.setAside 2) .lane .unknown))
    (numbered.start.held = false ∧ numbered.arm.port = .offline ∧ numbered.arm.cmd = none ∧ numbered.staging.gripper = none) ∧
    ((gripping numbered none .ret).staging.gripper = some (gripper none .ret) ∧ (gripper none .ret).awaiting = true) ∧
    ((armed numbered .stopped none).arm.port = .stopped ∧ (armed numbered .stopped none).arm.cmd = none) ∧
    (unknown.arm.port = .stopped ∧ unknown.arm.cmd = some (command (.setAside 2) .lane .unknown) ∧ 1 ≤ 2 ∧
      unknown.staging.lane = held (some .setAside) :: [] ∧ (held (some .setAside)).mark ≠ none ∧ unknown.staging.gripper = none ∧
      unknown.claim.sightings = []) := by decide

/-- An UNKNOWN command of each kind in STOPPED with its case in the gripper, a PLACE with and without its placement in the map, under a
plate that can answer and one that cannot; and a command in every other port state. -/
theorem test_witness_ReadyOpensThePort_settles :
    let marked := fun (s : State) (a : Action) => gripping s (some a.command) .none
    let s := fun (b : State) (a : Action) => armed (marked b a) .stopped (some (command a .lane .unknown))
    (∀ a ∈ [Action.setAside 2, .place target, .ret], ∀ b ∈ [building .active, placing],
      (s b a).start.held = false ∧ (s b a).arm.port = .stopped ∧ (s b a).arm.cmd = some (command a .lane .unknown) ∧
      (command a .lane .unknown).progress = .unknown ∧ (s b a).commandPlace (command a .lane .unknown).source = some .gripper ∧
      (s b a).caseAt .gripper = some (held (some a.command)) ∧
      ((s b a).stagedRecords.filter (fun x => x.mark.isSome)).length = 1) ∧
    (building .active).map.prov = none ∧ placing.map.prov.map (fun q => q.caseId) = some 501 ∧ placing.plate.state = .tared ∧
    placing.plate.watch = none ∧ numbered.plate.state ≠ .tared ∧
    (∀ p ∈ [PortState.ready, .stopped, .awaitAccept, .busy], ∀ x ∈ [Progress.resolving, .accepted],
      (armed placing p (some (command .ret .lane x))).arm.port = p ∧
      (armed placing p (some (command .ret .lane x))).arm.cmd = some (command .ret .lane x) ∧
      (command .ret .lane x).progress ≠ .unknown ∧ placing.planner.holds.armStopped = false) ∧
    ({ numbered with planner := { Planner.reset with holds := { Holds.none with armStopped := true } } } : State).planner.holds.armStopped =
      true := by decide +kernel

theorem test_witness_AcceptMovesTheCaseToTheGripper :
    let cmd := command (.place target) .lane .sent
    let s := armed (inLane (building .active) (some .place)) .awaitAccept (some cmd)
    let b := { building .active with staging := { (building .active).staging with buffer := [none, some (held (some .ret)), none, none] } }
    (s.start.held = false ∧ s.arm.port = .awaitAccept ∧ s.arm.cmd = some cmd ∧ cmd.tag = 7 ∧ cmd.source = .lane ∧
      s.staging.lane = held (some .place) :: [] ∧ cmd.action = .place target ∧ cmd.caseId = some 501) ∧
    (1 ≤ 2 ∧ b.staging.buffer.getD (2 - 1) none = some (held (some .ret))) ∧
    ((gripping numbered none .rePlan).staging.gripper = some (gripper none .rePlan)) ∧ (command .ret .gripper .sent).action.command ≠ .place ∧
    numbered.arm.port ≠ .awaitAccept ∧ (held (some .place)).mark ≠ none ∧ (held (some .ret)).mark ≠ none ∧
    ((gripping numbered (some .ret) .rePlan).staging.gripper = some (gripper (some .ret) .rePlan) ∧
      (gripper (some .ret) .rePlan).held.mark ≠ none) ∧
    (∀ r, (inLane numbered none).caseAt .lane = some r → r.mark = none) := by
  refine ⟨by decide, by decide, by decide, by decide, by decide, by decide, by decide, by decide, ?_⟩
  intro r h
  cases h
  rfl

theorem test_witness_DoneCompletesTheCommand :
    let w : Watch := { caseId := 501, line := .counted 0, m := 8000, open0 := 0, phase := .opened, orphaned := false, doneAt := none }
    let busy := fun (a : Action) => armed (gripping (building .active) (some a.command) .none) .busy (some (command a .lane .accepted))
    (∀ a ∈ [Action.setAside 2, .place target, .ret], (busy a).start.held = false ∧ (busy a).arm.port = .busy ∧
      (busy a).arm.cmd = some (command a .lane .accepted) ∧ (command a .lane .accepted).tag = 7 ∧
      (busy a).commandPlace .lane = some .gripper ∧ (busy a).staging.gripper = some (gripper (some a.command) .none)) ∧
    (let s := { busy (.place target) with plate := { (busy (.place target)).plate with watch := some w } }
     s.plate.watch = some w ∧ w.caseId = 501 ∧ w.orphaned = false) ∧
    (held (some .ret)).caseId = some 501 ∧ (busy .ret).bus.mode = .full ∧ (busy .ret).claim.backlog = [] ∧
    (busy .ret).bus.inGroup .reportGroup < 7 ∧ (held (some .ret)).line = .counted 0 ∧ (busy .ret).lineAt 0 = some line ∧
    numbered.arm.port ≠ .busy := by decide

/-- A DONE reported for a PLACE whose watch is orphaned, and the release and the count that its loss gives up. -/
theorem test_witness_DoneCompletesTheCommand_orphaned :
    let w : Watch := { caseId := 501, line := .counted 0, m := 8000, open0 := 0, phase := .opened, orphaned := true, doneAt := none }
    let s := armed { gripping (building .active) (some .place) .none with plate := { Plate.reset with watch := some w } } .busy
      (some (command (.place target) .lane .accepted))
    s.plate.watch = some w ∧ w.caseId = 501 ∧ w.orphaned = true ∧ s.commandPlace .lane = some .gripper ∧
    s.staging.gripper = some (gripper (some .place) .none) ∧ s.map.prov = none ∧ w.line = .counted 0 ∧ s.lineAt 0 = some line ∧
    s.bus.mode = .full ∧ s.claim.backlog = [] ∧ s.bus.inGroup .reportGroup < 7 := by decide

theorem test_witness_FaultStopsThePort :
    let s := armed (gripping (building .active) (some .ret) .none) .busy (some (command .ret .lane .accepted))
    numbered.start.held = false ∧ numbered.arm.port = .offline ∧ (armed numbered .stopped none).arm.port = .stopped ∧
    ((armed numbered .ready none).arm.port = .ready ∧ numbered.planner.holds.armStopped = false ∧ numbered.staging.gripper = none) ∧
    (s.start.held = false ∧ s.arm.port = .busy ∧ s.arm.cmd = some (command .ret .lane .accepted) ∧ (command .ret .lane .accepted).tag = 7 ∧
      (7 : Byte) ≠ 8 ∧ s.commandPlace .lane = some .gripper ∧ s.staging.gripper = some (gripper (some .ret) .none) ∧
      (command .ret .lane .accepted).action.command ≠ .place ∧ s.planner.holds.armStopped = false) := by decide

/-- A FAULT in READY with a command RESOLVING, with a gripper case that awaits disposition and with one that does not; and with the
command's tag in AWAIT ACCEPT, the case still on the lane, and in BUSY, a watch settling or orphaned. -/
theorem test_witness_FaultStopsThePort_clauses :
    let waits := fun (a : Action) => armed (inLane placing (some a.command)) .awaitAccept (some (command a .lane .sent))
    let busy := fun (a : Action) => armed (gripping placing (some a.command) .none) .busy (some (command a .lane .accepted))
    let w := fun (orphaned : Bool) =>
      ({ caseId := 501, line := .counted 0, m := 8000, open0 := 0, phase := .opened, orphaned := orphaned, doneAt := none } : Watch)
    ((armed placing .ready (some (command (.place target) .lane .resolving))).arm.port = .ready ∧ (gripper none .rePlan).awaiting = true ∧
      (gripper (some .ret) .none).awaiting = false ∧ (armed (gripping numbered none .rePlan) .ready none).staging.gripper = some (gripper none .rePlan)) ∧
    (∀ a ∈ [Action.setAside 2, .place target, .ret],
      ((waits a).arm.port = .awaitAccept ∧ (waits a).arm.cmd = some (command a .lane .sent) ∧ (command a .lane .sent).tag = 7 ∧
        (waits a).commandPlace .lane = some .lane ∧ (waits a).caseAt .lane = some (held (some a.command)) ∧
        ((waits a).stagedRecords.filter (fun x => x.mark.isSome)).length = 1 ∧ (waits a).planner.holds.armStopped = false) ∧
      (busy a).arm.port = .busy ∧ (busy a).commandPlace .lane = some .gripper ∧ (busy a).caseAt .gripper = some (held (some a.command))) ∧
    placing.map.prov.map (fun q => q.caseId) = some 501 ∧ placing.plate.watch = none ∧
    (∀ o ∈ [true, false], (w o).orphaned = o ∧
      ({ busy (.place target) with plate := { Plate.reset with watch := some (w o) } } : State).plate.watch = some (w o)) := by decide +kernel

theorem test_witness_HoldAndClearHold : numbered.start.held = false := rfl

theorem test_witness_MessagesGoOutOneAtATime :
    let cmd := command .ret .gripper .sent
    let arm := fun (a : ArmPort) => ({ numbered with arm := a } : State)
    numbered.start.held = false ∧ numbered.arm.ready = [] ∧ numbered.arm.onLine = none ∧ numbered.arm.mapRowHeld = none ∧
    .statusReport ∈ (arm { ArmPort.reset with ready := [.statusReport] }).arm.ready ∧
    .mapRow 3 ∈ (arm { ArmPort.reset with ready := [.mapRow 3] }).arm.ready ∧
    (arm { ArmPort.reset with onLine := some (.mapRow 3, []) }).arm.onLine = some (.mapRow 3, []) ∧
    (arm { ArmPort.reset with onLine := some (.mapRow 3, []), mapRowHeld := some 4 }).arm.mapRowHeld = some 4 ∧
    (arm { ArmPort.reset with onLine := some (.statusReport, []) }).arm.onLine = some (.statusReport, []) ∧
    (Instr.malformedMessage 0x07 0 [] (armCheck 0x07 0 [])).wellFormed = true ∧
    (let s := arm { ArmPort.reset with onLine := some (.command 7 [], []), cmd := some cmd, port := .awaitAccept }
     s.arm.onLine = some (.command 7 [], []) ∧ s.arm.ready = [] ∧ s.arm.cmd = some cmd ∧ cmd.tag = 7 ∧ s.arm.port = .awaitAccept) := by
  decide +kernel

/-- The rows of each grid in use, and its cells; R147: the body of a STATUS REPORT has its 48 bytes, that of a row 8 and 6 a column. -/
theorem test_witness_MessagesGoOutOneAtATime_rows :
    numbered.start.cfg.footprint ≤ 2 ∧ numbered.map.cells.length = 480 ∧ (3 : Byte).toNat < 20 ∧ 20 ≤ (20 : Byte).toNat ∧
    numbered.reportBody.length = 48 ∧ (numbered.mapRowBody 3).length = 152 ∧ (numbered.mapRowBody 20).length = 8 := by decide +kernel

theorem test_witness_ArmTimersLeaveTheCommandUnknown :
    let cmd := command .ret .gripper .sent
    let s := { numbered with arm := { ArmPort.reset with port := .awaitAccept, cmd := some cmd, acceptTimer := some 0 } }
    let b := { numbered with arm := { ArmPort.reset with port := .busy, cmd := some cmd, doneTimer := some 0 } }
    s.arm.cmd = some cmd ∧ s.planner.holds.armStopped = false ∧ s.arm.port = .awaitAccept ∧ s.arm.acceptTimer = some 0 ∧
    b.arm.cmd = some cmd ∧ b.planner.holds.armStopped = false ∧ b.arm.port = .busy ∧ b.arm.doneTimer = some 0 := by decide

/-! ### The load plate, planning and the map -/

theorem test_witness_SampleFiltersAndWeighs :
    let s := { numbered with plate := { Plate.reset with sampleLeft := some 0 } }
    s.plate.sampleLeft = some 0 ∧ s.plate.state ≠ .taring ∧ s.plate.f.length = 9 ∧ s.plate.b.length = 9 := by decide

/-- A TARED plate whose sample is due, in mode ACTIVE, with eight equal channels under a scan of `n` raw counts each. -/
def weighing (p : Plate) : State := { numbered with plate := { p with state := .tared, mode := .active, sampleLeft := some 0 } }

/-- A scan of eight equal raw counts and an unloaded ninth. -/
def evenScan (n : RawCount) : List RawCount := List.replicate 8 n ++ [0]

/-- Each clause of a sample: below and at 20 kg, a slip and none, over the channel limit and within it, settled and restarted, an
unsettled load, and the mode with and without a reason to follow. -/
theorem test_witness_SampleFiltersAndWeighs_clauses :
    let t := fun (n : RawCount) (p : Plate) => (after (.plateSample (evenScan n)) (weighing p)).plate
    let old : Plate := { Plate.reset with history := [{ time := 0, x := 100, y := 0 }] }
    let laden : Plate := { Plate.reset with f := List.replicate 8 1000000 ++ [0] }
    (t 0 Plate.reset).load = 0 ∧ 20000 ≤ (t 5000 Plate.reset).load ∧
    (t 5000 old).history = [] ∧ (t 5000 Plate.reset).history.length = 1 ∧
    Plate.reset.overload = false ∧ (t 1000000 laden).overload = true ∧ (t 0 Plate.reset).overload = false ∧
    (Plate.reset.restart = false ∨ Plate.reset.restart = true) ∧
    (t 0 { Plate.reset with restart := false, clock := 5000 }).restart = true ∧ (t 0 { Plate.reset with restart := true }).restart = false ∧
    (t 0 { Plate.reset with quietLeft := some 1 }).mode = .active ∧ (t 0 Plate.reset).mode = .watch := by decide +kernel

/-- R163, R165: the timings of a TARED plate with no load committed, at the clock 5,000: a load of 40 kg starts the disturbance timing, no
load stops it; no load starts the clearing timing, 40 kg stop it; within the limit the overload clearing timing starts, over it it stops.
A timing that began at 4,999 runs on, one that began at 1 has lasted. -/
theorem test_witness_SampleFiltersAndWeighs_timings :
    let base : Plate := { Plate.reset with clock := 5000 }
    let t := fun (n : RawCount) (p : Plate) => (after (.plateSample (evenScan n)) (weighing p)).plate
    let d := fun (n : RawCount) (p : Plate) => ((t n p).disturbed, (t n p).disturbFrom, (t n p).clearFrom)
    let o := fun (n : RawCount) (p : Plate) => ((t n p).overload, (t n p).overClearFrom)
    let laden : Plate := { base with f := List.replicate 8 1000000 ++ [0] }
    d 10000 base = (false, some 5000, none) ∧ d 0 { base with disturbFrom := some 4999 } = (false, none, none) ∧
    d 10000 { base with disturbFrom := some 4999 } = (false, some 4999, none) ∧
    d 10000 { base with disturbFrom := some 1 } = (true, none, none) ∧
    d 0 { base with disturbed := true } = (true, none, some 5000) ∧
    d 10000 { base with disturbed := true, clearFrom := some 1 } = (true, none, none) ∧
    d 0 { base with disturbed := true, clearFrom := some 1 } = (false, none, none) ∧
    d 10000 { base with watch := some ⟨501, .absent, 8000, 0, .opened, false, none⟩ } = (false, none, none) ∧
    o 0 { base with overload := true } = (true, some 5000) ∧ o 0 { base with overload := true, overClearFrom := some 4999 } = (true, some 4999) ∧
    o 1000000 { laden with overload := true, overClearFrom := some 1 } = (true, none) ∧
    o 0 { base with overload := true, overClearFrom := some 1 } = (false, none) := by decide +kernel

/-- The watch of case 501, settling. -/
def watch : Watch :=
  { caseId := 501, line := .counted 0, m := 8000, open0 := 0, phase := .settling, orphaned := false, doneAt := some 0 }

theorem test_write_is_taken : placing.map.prov.map (fun p => (p.caseId, p.s, p.load, p.rest)) = some (501, 48, 167, 0) := by decide +kernel

theorem test_witness_SettledLoadTaresOrGivesTheVerdict :
    let due := fun (p : Plate) => ({ p with sampleLeft := some 0, restart := false, clock := 2000 } : Plate)
    let settles := fun (s : State) => s.plate.sampleLeft = some 0 ∧ s.plate.restart = false ∧
      ((s.plate.scan s.start.cfg s.pins.bridge).load - s.plate.ref).natAbs ≤ s.start.cfg.settleBand ∧
      s.start.cfg.settleTime ≤ s.plate.clock - s.plate.runStart
    (let s := { numbered with plate := due { Plate.reset with state := .taring } }
     settles s ∧ s.plate.state = .taring) ∧
    (let s := { placing with plate := due { Plate.reset with state := .tared, watch := some watch } }
     settles s ∧ s.plate.state = .tared ∧ s.plate.watch = some watch ∧ watch.phase = .settling ∧ watch.orphaned = false ∧
      watch.doneAt = some 0 ∧ s.plate.clock ≤ 0 + 2000 ∧ s.plate.evidence = none ∧
      s.map.prov.map (fun p => (p.caseId, p.line)) = some (watch.caseId, 0) ∧ s.planner.result = none ∧
      s.job.record = some (record .active) ∧ (record .active).phase = .active ∧ s.claim.sightings = [] ∧ s.lineAt 0 = some line ∧
      watch.line = .counted 0 ∧ s.bus.mode = .full ∧ s.claim.backlog = [] ∧ s.bus.inGroup .reportGroup < 7) ∧
    -- the three verdicts, by the gain over the open load
    ((3999 : Int) < (8000 / 2 : Nat) ∧ ¬ (8000 : Int) < (8000 / 2 : Nat) ∧ ((8000 : Int) - 8000).natAbs ≤ max 200 (8000 * 3 / 100) ∧
      ¬ ((9000 : Int) - 8000).natAbs ≤ max 200 (8000 * 3 / 100)) ∧
    -- the line that the case completes, and the one it does not
    ({ line with placed := 1 } : LineRec).placed + 1 = line.ordered ∧ line.placed + 1 ≠ line.ordered := by decide +kernel

/-- R158, R162: the events of a settled watch of 8,000 g on a plate of eight equal channels, the case placed in a corner: VERIFIED at
8,000 g with no comparison under 20 kg, MASS MISMATCH at 9,000 g, NOT LANDED at 3,992 g, and OFF CENTRE with 24,000 g on the plate. -/
theorem test_verdict_events :
    let t := fun (n : Int) (open0 : Int) =>
      let p : Plate := { Plate.reset with
        state := .tared, mode := .active, sampleLeft := some 0, restart := false, clock := 2000, f := List.replicate 8 n ++ [0]
        ref := 8 * n, watch := some { watch with open0 := open0 } }
      let s : State := { placing with plate := p, pins := { placing.pins with bridge := evenScan (BitVec.ofInt 24 n) } }
      let c := (after .plateSettled s).events.counters
      (c.getD EventKind.massMismatch.number 0, c.getD EventKind.notLanded.number 0, c.getD EventKind.caseLost.number 0,
        c.getD EventKind.offCentre.number 0)
    t 1000 0 = (0, 0, 0, 0) ∧ t 1125 0 = (1, 0, 0, 0) ∧ t 499 0 = (0, 1, 1, 0) ∧ t 3000 16000 = (0, 0, 0, 1) := by decide +kernel

/-- An evidence request within its window at a settled load, and the gains of the two answers. -/
theorem test_witness_SettledLoadTaresOrGivesTheVerdict_evidence :
    let ev : Evidence := { caseId := 501, m := 8000, r0 := 0, askedAt := 0 }
    let cmd := command (.place target) .lane .resolving
    let s := armed { placing with plate := { Plate.reset with state := .tared, sampleLeft := some 0, restart := false, clock := 2000, evidence := some ev, evidenceLeft := some 0 } }
      .ready (some cmd)
    (s.plate.sampleLeft = some 0 ∧ s.plate.restart = false ∧
      ((s.plate.scan s.start.cfg s.pins.bridge).load - s.plate.ref).natAbs ≤ s.start.cfg.settleBand ∧
      s.start.cfg.settleTime ≤ s.plate.clock - s.plate.runStart) ∧
    s.plate.state = .tared ∧ s.plate.evidence = some ev ∧ s.plate.clock ≤ ev.askedAt + 2000 ∧ s.plate.watch = none ∧ s.arm.cmd = some cmd ∧
    cmd.action = .place target ∧ cmd.caseId = some 501 ∧ s.map.prov.map (fun q => q.caseId) = some 501 ∧ s.planner.result = none ∧
    s.staging.gripper = none ∧ s.start.state ≠ .starting ∧ s.events.counters.length = 24 ∧
    s.start.cfg.classes.getD EventKind.caseLost.number .off ≠ .off ∧
    ((8000 / 2 : Nat) : Int) ≤ 4000 - ev.r0 ∧ ¬ ((8000 / 2 : Nat) : Int) ≤ 3999 - ev.r0 := by decide +kernel

/-- R158, R162: UNSETTLED at the end of the verify window, and OFF CENTRE with it from 20,000 g on, of the case placed in a corner. -/
theorem test_unsettled_events :
    let t := fun (load : Int) =>
      let p : Plate := { Plate.reset with state := .tared, load := load, verifyLeft := some 0, watch := some watch }
      let c := (after .verifyWindowEnd { placing with plate := p }).events.counters
      (c.getD EventKind.unsettled.number 0, c.getD EventKind.offCentre.number 0)
    t 19999 = (1, 0) ∧ t 20000 = (1, 1) := by decide +kernel

theorem test_witness_PlateTimersEnd :
    let ev : Evidence := { caseId := 501, m := 8000, r0 := 0, askedAt := 0 }
    let cmd := command (.place target) .lane .resolving
    let load := fun (p : Plate) => ({ placing with plate := p } : State)
    let tared : Plate := { Plate.reset with state := .tared }
    (let s := load { tared with verifyLeft := some 0, watch := some watch }
     s.plate.verifyLeft = some 0 ∧ s.plate.watch = some watch ∧ watch.phase = .settling ∧
      s.map.prov.map (fun p => p.caseId) = some watch.caseId ∧ s.planner.result = none) ∧
    (let s := armed (load { tared with evidenceLeft := some 0, evidence := some ev }) .ready (some cmd)
     s.plate.evidenceLeft = some 0 ∧ s.plate.evidence = some ev ∧ s.arm.cmd = some cmd ∧ cmd.caseId = some 501 ∧
      cmd.action = .place target ∧ s.map.prov.map (fun p => p.caseId) = some 501) ∧
    (let due : Plate := { tared with sampleLeft := some 0, clock := 1500 }
     let figures := fun (s : State) => s.plate.scan s.start.cfg s.pins.bridge
     (let s := load { due with disturbFrom := some 300, f := List.replicate 8 4000 ++ [0] }
      s.plate.sampleLeft = some 0 ∧ s.plate.state = .tared ∧ s.plate.watch = none ∧ s.plate.evidence = none ∧
       s.plate.disturbFrom = some 300 ∧ 300 + s.start.cfg.settleTime ≤ s.plate.clock ∧ s.plate.disturbed = false ∧
       s.start.cfg.disturbBand < ((figures s).load - s.map.mTot).natAbs) ∧
     (let s := load { due with clearFrom := some 300, disturbed := true }
      s.plate.sampleLeft = some 0 ∧ s.plate.clearFrom = some 300 ∧ s.plate.disturbed = true ∧
       ((figures s).load - s.map.mTot).natAbs ≤ s.start.cfg.disturbBand) ∧
     (let s := load { due with overClearFrom := some 300, overload := true }
      s.plate.sampleLeft = some 0 ∧ s.plate.overClearFrom = some 300 ∧ 300 + s.start.cfg.settleTime ≤ s.plate.clock ∧
       s.plate.overload = true ∧ s.plate.watch = none ∧ s.plate.evidence = none ∧
       ∀ m ∈ (figures s).masses, m ≤ ((s.start.cfg.channelLimitKg * 1000 : Nat) : Int))) ∧
    (load { tared with quietLeft := some 0 }).plate.quietLeft = some 0 := by decide +kernel

/-- A line of crates that cover the whole half pallet (footprint code 2), so that one candidate alone passes the fit test. -/
def wideLine : LineRec := { line with length := 800, width := 600, faceLock := true }

/-- Case 501 of that line in the lane with the arm port READY, and its only place. -/
def wide : State :=
  armed { inLane (building .active) none with
    job := { JobUnit.reset with
      record := some { record .active with footprint := 2 }
      lines := JobUnit.reset.lines.set 0 (some wideLine) } } .ready none

def wideTarget : PlaceTarget :=
  { target with lc := 16, wr := 12, figures := { figures with length := 800, width := 600, faceLock := true } }

/-- R50: the pass chooses the only place. -/
theorem test_choose_place :
    (wide.choose wide.passInputs).map (fun a => (a.1, a.2.record.caseId)) = some (.place wideTarget, some 501) := by decide +kernel

/-- A released result of each action on a free port, one whose write is refused, and a gripper case under a hold. -/
theorem test_witness_FinishLeavesTheFieldAlone_results :
    let with_ := fun (s : State) (a : Action) => ({ s with planner := { s.planner with
      result := some { action := a, caseId := some 501, source := .lane, prior := some 500, released := true } } } : State)
    (let s := with_ wide .ret
     (s.planner.result.map (fun r => (r.action, r.released))) = some (.ret, true) ∧ s.arm.port = .ready ∧ s.arm.cmd = none ∧
      s.planner.holds.any = false ∧ s.arm.ready = [] ∧ s.arm.onLine = none ∧ Action.ret.command ≠ .place) ∧
    ((with_ wide (.place wideTarget)).writeRequest 501 wideTarget).isSome = true ∧
    ((with_ (armed (building .closing) .ready none) (.place target)).writeRequest 501 target).isNone = true ∧
    (let s := { armed (gripping (building .active) none .rePlan) .ready none with
       planner := { Planner.reset with holds := { Holds.none with operator := true } } }
     s.planner.holds.any = true ∧ s.arm.port = .ready ∧ s.arm.cmd = none ∧ s.staging.gripper = some (gripper none .rePlan) ∧
      (gripper none .rePlan).command = none ∧ (gripper none .rePlan).disposition ≠ .none ∧ (gripper none .rePlan).held.mark = none) := by
  decide +kernel

theorem test_witness_PassesStartAndEnd :
    (let s := { wide with planner := { Planner.reset with flag := true } }
     s.planner.flag = true ∧ s.planner.pass = none ∧ s.planner.result = none ∧ s.planner.holds.any = false ∧
      s.stagedSet.isEmpty = false ∧ s.arm.port = .ready ∧ s.arm.cmd = none) ∧
    (numbered.planner.flag = false ∧ numbered.planner.pass = none) ∧
    (wide.planner.holds.any = false ∧ (wide.writeRequest 501 wideTarget).isSome = true) ∧
    (Holds.none.put .operator true).any = true ∧ ({ wide.passInputs with prior := some 500 } : Pass).prior = some 500 ∧
    -- nothing to choose, a RETURN chosen, and a refused write
    ((building .active).choose (building .active).passInputs).isNone = true ∧
    (let s := armed (inLane (building .closing) none) .ready none
     (s.choose s.passInputs).map (fun a => a.1.command) = some .ret) ∧
    ((building .closing).writeRequest 501 target).isNone = true ∧ (armed wide .busy none).arm.port ≠ .ready := by decide +kernel

/-- A pass over some members, in a job ACTIVE, with limits that leave every case without a place (0) or do not. -/
def passOver (ms : List Member) (free : Option Nat) (effHeight lowest : Nat) : Pass :=
  { age := 0, members := ms, phase := some .active, disposition := .none, freeBuffer := free, effHeight := effHeight, effLoad := 900000,
    lowest := lowest, won := 8000, prior := none }

/-- A member whose case is a crate of mass `m` that has one place on the half pallet of `wide`. -/
def crate (src : Source) (m : Nat) : Member :=
  { source := src, record := held none, figures := some { wideTarget.figures with m := m }, excess := false, shut := false }

/-- The action that a pass chooses and the source of its case. -/
def choice (p : Pass) : Option (Action × Source) := (wide.choose p).map (fun a => (a.1, a.2.source))

/-- What a pass chooses, clause by clause: an outcast; no place for a case in the gripper, on the lane (hopeless, with a free
position and with none) and in the buffer table (hopeless and not); and the order of two cases. -/
theorem test_witness_PassesStartAndEnd_outcast :
    choice (passOver [{ crate .lane 8000 with excess := true }] none 1200 0) = some (.ret, .lane) ∧
    (crate .lane 8000).outcast = false ∧ caseBefore (crate .lane 9000) (crate .lane 8000) = true ∧
    caseBefore (crate .lane 8000) (crate .lane 8000) = false := by decide +kernel

theorem test_witness_PassesStartAndEnd_gripper :
    choice (passOver [crate .gripper 8000] none 0 0) = some (.ret, .gripper) := by decide +kernel

theorem test_witness_PassesStartAndEnd_lane :
    choice (passOver [crate .lane 8000] (some 2) 0 0) = some (.ret, .lane) ∧
    choice (passOver [crate .lane 1000000] (some 2) 1200 0) = some (.setAside 2, .lane) := by decide +kernel

theorem test_witness_PassesStartAndEnd_full :
    choice (passOver [crate .lane 1000000, crate (.buffer 1) 1000000] none 1200 0) = some (.ret, .lane) := by decide +kernel

theorem test_witness_PassesStartAndEnd_buffer :
    choice (passOver [crate (.buffer 1) 1000000] none 1200 0) = none ∧
    choice (passOver [crate (.buffer 1) 8000] none 0 0) = some (.ret, .buffer 1) := by decide +kernel

theorem test_witness_WriteThenRollbackOrCommit :
    let s := building .active
    s.map.cells.length = 480 ∧ (∀ x ∈ s.map.cells, x.mark = false) ∧ (s.writeRequest 501 target).isSome = true ∧
    (placing.map.prov.all (fun p => decide (s.map.mTot + p.m < 2 ^ 32 ∧ s.map.sz + p.m * p.z < 2 ^ 32 ∧
      -2147483648 ≤ s.map.sx + p.m * p.x ∧ s.map.sx + p.m * p.x ≤ 2147483647 ∧
      -2147483648 ≤ s.map.sy + p.m * p.y ∧ s.map.sy + p.m * p.y ≤ 2147483647))) = true ∧
    s.map.count < 65535 ∧ s.map.seq < 65535 := by decide +kernel

/-- R28, R31: the footprint's cells after the write of the corner place on the empty deck, and its first cell after a commit with a
measured mass of 9,600 g: each of the 48 cells carries 200 g, and the rating of the case's class bounds the reserve. -/
theorem test_write_fills_the_footprint :
    let idx := footprintCells 0 0 0 8 6
    idx.length = 48 ∧ (∀ i ∈ idx, (placing.map.cellAt i).top = 250 ∧ (placing.map.cellAt i).rank = 4 ∧ (placing.map.cellAt i).mark = true) ∧
    480 ∉ idx ∧ (placing.map.prov.map (fun p => ((placing.map.commitMeasured 0 9600 p).cellAt 0).mark)) = some false := by decide +kernel

theorem test_witness_EventsActByTheirClass :
    State.reset.start.state = .starting ∧ numbered.start.state ≠ .starting ∧
    (∀ c ∈ [EventClass.count, .deferred, .prompt], ∃ e ∈ EventKind.all, numbered.start.cfg.classes.getD e.number .off = c) ∧
    ({ numbered with start := { numbered.start with cfg := { Params.default with classes := [] } } } : State).classOf .slip = .off ∧
    numbered.events.latched.getLsbD 7 = false ∧ numbered.events.holdoff = none ∧
    ({ EventUnit.reset with latched := 0xFFFFFF, holdoff := some 100 } : EventUnit).latched.getLsbD 7 = true := by decide +kernel

theorem test_witness_StatusTimersQueueTheStatus :
    let s := { numbered with events := { EventUnit.reset with status := some 0, holdoff := some 0 } }
    let p := { numbered with events := { EventUnit.reset with holdoff := some 0, prompt := true } }
    s.events.status = some 0 ∧ s.events.holdoff = some 0 ∧ s.events.prompt = false ∧ p.events.holdoff = some 0 ∧ p.events.prompt = true := by
  decide

/-- R100: five lines of four products by room 3, 5, 3, 9 and 1: the greatest room first, of equal room the lower line, a product once. -/
theorem test_wanted_list :
    let l := fun (p : ProductCode) (ordered : Nat) => some { line with product := p, ordered := ordered }
    let s := { building .active with job := { (building .active).job with
      lines := [l 10 3, l 11 5, l 12 3, l 11 9, l 13 1] ++ List.replicate 59 none } }
    s.phase = some .active ∧ s.statusFields.wanted = [11, 10, 12] ∧ numbered.phase ≠ some .active ∧ s.map.seq ≤ 65535 ∧
    s.start.cfg.divertOffset ≤ 655350 := by decide +kernel

/-! ### The invariants, each with a step from a state that meets it -/

theorem test_witness_EveryStepKeepsTheTravelDigits :
    Safety.TravelDigits numbered ∧ Safety.Goes (step { numbered with pending := [.forwardCount] }) := by
  refine ⟨by unfold Safety.TravelDigits; decide, ⟨after .forwardCount numbered, rfl⟩⟩

theorem test_witness_EveryStepKeepsTheStoresInBounds :
    Safety.FixedStores numbered ∧ Safety.ListsInBounds numbered ∧ Safety.Goes (step { numbered with pending := [.encoderSkip] }) := by
  refine ⟨by unfold Safety.FixedStores; decide +kernel, by unfold Safety.ListsInBounds; decide, ⟨after .encoderSkip numbered, rfl⟩⟩

theorem test_witness_EveryStepKeepsTheQueueInPlaces :
    Safety.QueueInPlaces (sending numbered (.claim 501 0)) ∧ Safety.Goes (step (sending numbered (.claim 501 0))) := by
  refine ⟨⟨?_, by decide⟩, ⟨_, rfl⟩⟩
  intro g
  cases g <;> decide

theorem test_witness_EveryStepKeepsTheCasesInOrder :
    Safety.CasesInOrder (travelling .diverting (scheduled .fired (some 2700)) 2900) ∧
    Safety.Goes (step (travelling .diverting (scheduled .fired (some 2700)) 2900)) := by
  refine ⟨by unfold Safety.CasesInOrder; decide, ⟨_, rfl⟩⟩

theorem test_witness_EveryStepKeepsTheCasesInOrder_arrivals :
    let s := travelling .diverting (scheduled .fired (some 2700)) 2900
    Safety.ArrivalsNear s ∧ Safety.ArrivalsAscend s := by
  unfold Safety.ArrivalsNear Safety.ArrivalsAscend
  decide

end Sys2Proof.Tests
end

section
/-! SUPPORT. The planner's feasibility (R38 to R46): the cells under a candidate, their rest height, and each of the eight tests. -/

namespace Sys2Proof.Machine

/-! ### A candidate's footprint and its rest height (R38, R40) -/

theorem cellsOf_pos (mm : Nat) : 0 < cellsOf mm := Nat.lt_of_lt_of_le Nat.one_pos (Nat.le_max_left _ _)

theorem footprintCells_ne_nil (code c r : Nat) {lc wr : Nat} (hl : 0 < lc) (hw : 0 < wr) : footprintCells code c r lc wr ≠ [] := by
  have hmem : r * gridColumns code + c ∈ footprintCells code c r lc wr := by
    simp only [footprintCells, List.mem_flatMap, List.mem_map, List.mem_range]
    exact ⟨0, hw, 0, hl, rfl⟩
  exact List.ne_nil_of_mem hmem

/-- R38, R41: the cell records under a candidate, which `State.feasible` reads in each of its tests. -/
def State.candidateCells (s : State) (f : Figures) (c r : Nat) (turned : Bool) : List GridCell :=
  (footprintCells s.codeInUse c r (footColumns f.length f.width turned) (footRows f.length f.width turned)).map s.map.cellAt

theorem State.candidateCells_ne_nil (s : State) (f : Figures) (c r : Nat) (turned : Bool) : s.candidateCells f c r turned ≠ [] := by
  rw [State.candidateCells, ne_eq, List.map_eq_nil_iff]
  exact footprintCells_ne_nil _ c r (cellsOf_pos _) (cellsOf_pos _)

/-- R40: the rest height over some cells is the largest of their top heights. -/
theorem foldl_max_top_eq_iff {cells : List GridCell} (hne : cells ≠ []) (rest : Nat) :
    cells.foldl (fun m x => max m x.top) 0 = rest ↔ (∀ x ∈ cells, x.top ≤ rest) ∧ ∃ x ∈ cells, x.top = rest := by
  have hfold : (cells.map (fun x => x.top)).max? = some (cells.foldl (fun m x => max m x.top) 0) := by
    cases cells with
    | nil => exact absurd rfl hne
    | cons x xs => simp [List.max?, List.foldl_map]
  have hmax : (cells.map (fun x => x.top)).max? = some rest ↔ _ := List.max?_eq_some_iff
  rw [hfold, Option.some.injEq] at hmax
  rw [hmax, and_comm]
  simp

/-! ### The eight tests (R39 to R46) -/

theorem fitsAt_eq_true {code c r lc wr : Nat} :
    fitsAt code c r lc wr = true ↔ c + lc ≤ gridColumns code ∧ r + wr ≤ gridRows code ∧ lc * wr ≤ 192 := decide_eq_true_iff

theorem GridCell.bears_eq_true {x : GridCell} {load : Nat} : x.bears load = true ↔ x.reserve = 65535 ∨ load ≤ x.reserve :=
  decide_eq_true_iff

theorem axisPasses_eq_true {after before : Int} {allowed : Nat} :
    axisPasses after before allowed = true ↔ after.natAbs ≤ allowed ∨ after.natAbs ≤ before.natAbs := by
  simp [axisPasses]

theorem State.centrePasses_eq_true {s : State} {after : MassFigures} :
    s.centrePasses after = true ↔ after.m < s.start.cfg.comThresholdKg * 1000 ∨
      ((after.x.natAbs ≤ max 40 (s.start.cfg.wx0 - after.z / 16) ∨ after.x.natAbs ≤ s.map.standing.x.natAbs) ∧
        (after.y.natAbs ≤ max 40 (s.start.cfg.wy0 - after.z / 16) ∨ after.y.natAbs ≤ s.map.standing.y.natAbs)) := by
  simp only [State.centrePasses, halfWidth, Bool.or_eq_true, Bool.and_eq_true, decide_eq_true_eq, axisPasses_eq_true]

/-- R39: the eight tests in the model's own terms, the rest height read off the footprint's cells. -/
theorem State.feasible_eq_some_iff (s : State) (effHeight effLoad : Nat) (f : Figures) (c r : Nat) (turned : Bool) (rest : Nat) :
    let code := s.codeInUse
    let lc := footColumns f.length f.width turned
    let wr := footRows f.length f.width turned
    let cells := s.candidateCells f c r turned
    let supporting := cells.filter (fun x => x.supports rest s.start.cfg.supportTol)
    let n := supporting.length
    s.feasible effHeight effLoad f c r turned = some rest ↔
      fitsAt code c r lc wr = true ∧ cells.foldl (fun m x => max m x.top) 0 = rest ∧ rest + f.h ≤ effHeight ∧
      lc * wr * s.start.cfg.supportPct ≤ 100 * n ∧ (∀ x ∈ supporting, f.rank ≤ x.rank + s.start.cfg.zoneSlack) ∧
      (∀ x ∈ supporting, x.bears (ceilDiv f.m n) = true) ∧ s.map.standing.m + f.m ≤ effLoad ∧
      s.centrePasses (s.map.standing.plus f.m (centroidX code c lc) (centroidY code r wr) (centroidZ rest f.h)) = true := by
  intro code lc wr cells supporting n
  simp only [State.feasible, Option.ite_none_left_eq_some, Option.ite_none_right_eq_some, Option.some.injEq, Bool.not_eq_false,
    Nat.not_lt, List.any_eq_true, decide_eq_true_eq, Bool.not_eq_true', not_exists, not_and]
  constructor
  · rintro ⟨hfit, hheight, hcells, hrank, hload, hmass, hcentre, rfl⟩
    exact ⟨hfit, rfl, hheight, hcells, hrank, hload, hmass, hcentre⟩
  · rintro ⟨hfit, rfl, hheight, hcells, hrank, hload, hmass, hcentre⟩
    exact ⟨hfit, hheight, hcells, hrank, hload, hmass, hcentre, rfl⟩

end Sys2Proof.Machine

open Sys2Proof Sys2Proof.Machine

/-- Settles O52: the model's eight tests in its own terms, each read out, with the rest height as the largest top of the footprint. -/
theorem feasibleMeansTheEightTests : Obligations.FeasibleMeansTheEightTests := by
  intro s effHeight effLoad f c r turned rest side lc wr code cells supporting n after
  have htests := s.feasible_eq_some_iff effHeight effLoad f c r turned rest
  simp only [fitsAt_eq_true, GridCell.bears_eq_true, State.centrePasses_eq_true, and_assoc] at htests
  rw [foldl_max_top_eq_iff (s.candidateCells_ne_nil f c r turned), and_assoc] at htests
  exact htests
end

section
/-! SUPPORT. The life of a planning pass (R54 to R57): its start, the issue of a command, and its end. -/

namespace Sys2Proof.Machine

variable (s : State)

/-! ### The start of a pass (R54) -/

theorem State.active_eq_true : s.active = true ↔ s.phase = some .active := decide_eq_true_iff

theorem State.armFree_eq_true : s.armFree = true ↔ s.arm.port = .ready ∧ s.arm.cmd = none := by
  simp [State.armFree]

/-- R54: the conditions of a start. -/
theorem State.canStart_eq_true :
    s.canStart = true ↔ s.planner.flag = true ∧ s.planner.pass = none ∧ s.planner.result = none ∧ s.planner.holds.any = false ∧
      s.stagedSet ≠ [] ∧ ((s.arm.port = .ready ∧ s.arm.cmd = none) ∨ (s.phase = some .active ∧ s.map.prov ≠ none)) := by
  simp only [State.canStart, Bool.and_eq_true, Bool.or_eq_true, State.armFree_eq_true, State.active_eq_true, Option.isNone_iff_eq_none,
    Option.isSome_iff_ne_none, Bool.not_eq_true', List.isEmpty_eq_false_iff, and_assoc]

theorem exec_planningPassStart_of_canStart (h : s.canStart = true) : exec .planningPassStart s = .next s.startPass :=
  congrArg Host.Outcome.next (if_pos h)

theorem exec_planningPassStart_of_not_canStart (h : ¬ s.canStart = true) : exec .planningPassStart s = .next s :=
  congrArg Host.Outcome.next (if_neg h)

/-! ### Issuing a command (R57, R137) -/

/-- R137: what goes onto the line is none of the outstanding command's business. -/
theorem State.armBegin_command :
    s.armBegin.arm.cmd = s.arm.cmd ∧ s.armBegin.arm.port = s.arm.port ∧ s.armBegin.arm.tag = s.arm.tag := by
  unfold State.armBegin
  split <;> simp

@[simp] theorem State.setPlanner_lineAtSource (x : Planner) (src : Source) (id : Option CaseId) :
    (s.setPlanner x).lineAtSource src id = s.lineAtSource src id := rfl

@[simp] theorem State.setMap_lineAtSource (x : StackMap) (src : Source) (id : Option CaseId) :
    (s.setMap x).lineAtSource src id = s.lineAtSource src id := rfl

/-- R135, R137: the outstanding command that an issued action becomes. -/
theorem State.issueCommand_command (a : Action) (src : Source) (id : Option CaseId) :
    (s.issueCommand a src id).arm.cmd =
        some { action := a, tag := s.arm.tag + 1, caseId := id, source := src, line := s.lineAtSource src id, progress := .sent } ∧
      (s.issueCommand a src id).arm.port = .awaitAccept ∧ (s.issueCommand a src id).arm.tag = s.arm.tag + 1 := by
  simp [State.issueCommand, State.sendReady, State.armBegin_command]

/-- R57: a result that places nothing is issued at once. -/
theorem State.issueResult_of_not_place (r : PlanResult) (h : r.action.command ≠ .place) :
    s.issueResult r = (s.setPlanner { s.planner with result := none }).issueCommand r.action r.source r.caseId := by
  unfold State.issueResult
  cases hr : r.action with
  | place t => exact absurd (by rw [hr]; rfl) h
  | _ => rfl

/-- R28, R29: a write request reads nothing of the planner. -/
theorem State.setPlanner_writeRequest (x : Planner) (id : CaseId) (t : PlaceTarget) :
    (s.setPlanner x).writeRequest id t = s.writeRequest id t := rfl

/-- R57: a PLACE is issued once the stack map has taken its write. -/
theorem State.issueResult_of_write {r : PlanResult} {t : PlaceTarget} {id : CaseId} {mp : StackMap} (ha : r.action = .place t)
    (hid : r.caseId = some id) (hw : s.writeRequest id t = some mp) :
    s.issueResult r =
      (((s.setPlanner { s.planner with result := none }).setMap mp).setFlag).issueCommand r.action r.source r.caseId := by
  simp only [State.issueResult, ha, hid, Option.bind_some, State.setPlanner_writeRequest, hw]

/-- R57: a refused write discards the PLACE. -/
theorem State.issueResult_of_refused {r : PlanResult} {t : PlaceTarget} {id : CaseId} (ha : r.action = .place t)
    (hid : r.caseId = some id) (hw : s.writeRequest id t = none) :
    s.issueResult r = (s.setPlanner { s.planner with result := none }).setFlag := by
  simp only [State.issueResult, ha, hid, Option.bind_some, State.setPlanner_writeRequest, hw]

/-! ### The end of a pass (R55 to R58) -/

theorem exec_planningPassEnd_of_no_pass (h : s.planner.pass = none) : exec .planningPassEnd s = .next s := by
  simp [exec, execPlanningPassEnd, goes, h]

theorem exec_planningPassEnd_of_pass {p : Pass} (h : s.planner.pass = some p) :
    exec .planningPassEnd s = .next (s.endPass p).finish := by
  simp [exec, execPlanningPassEnd, goes, h]

variable {s} {p : Pass} {a : Action} {m : Member}

theorem State.endPass_of_no_choice (h : s.choose p = none) : s.endPass p = s.setPlanner { s.planner with pass := none } := by
  simp [State.endPass, h]

theorem State.endPass_of_hold (h : s.choose p = some (a, m)) (hh : s.planner.holds.any = true) :
    s.endPass p = (s.setPlanner { s.planner with pass := none }).setFlag := by
  simp [State.endPass, h, hh]

theorem State.endPass_of_prior {c : CaseId} (h : s.choose p = some (a, m)) (hh : s.planner.holds.any = false) (hp : p.prior = some c) :
    s.endPass p = s.setPlanner { s.planner with
      pass := none
      result := some { action := a, caseId := m.record.caseId, source := m.source, prior := some c, released := false } } := by
  simp only [State.endPass, h, hh, hp, Bool.false_eq_true, if_false, Option.isSome_some, if_true]
  rfl

theorem State.endPass_of_busy (h : s.choose p = some (a, m)) (hh : s.planner.holds.any = false) (hp : p.prior = none)
    (hb : ¬ s.armFree = true) : s.endPass p = (s.setPlanner { s.planner with pass := none }).setFlag := by
  simp [State.endPass, h, hh, hp, hb]

/-- R57: a choice on a free port is issued, with the pass gone. -/
theorem State.endPass_of_free (h : s.choose p = some (a, m)) (hh : s.planner.holds.any = false) (hp : p.prior = none)
    (hf : s.armFree = true) :
    s.endPass p = (s.setPlanner { s.planner with pass := none }).issueResult
      { action := a, caseId := m.record.caseId, source := m.source, prior := none, released := false } := by
  simp [State.endPass, h, hh, hp, hf]

theorem State.endPass_of_not_place (h : s.choose p = some (a, m)) (hh : s.planner.holds.any = false) (hp : p.prior = none)
    (hf : s.armFree = true) (ha : a.command ≠ .place) :
    s.endPass p =
      (s.setPlanner { s.planner with pass := none, result := none }).issueCommand a m.source m.record.caseId := by
  rw [State.endPass_of_free h hh hp hf]
  exact State.issueResult_of_not_place _ _ ha

theorem State.endPass_of_write {t : PlaceTarget} {id : CaseId} {mp : StackMap} (h : s.choose p = some (a, m))
    (hh : s.planner.holds.any = false) (hp : p.prior = none) (hf : s.armFree = true) (ha : a = .place t)
    (hid : m.record.caseId = some id) (hw : s.writeRequest id t = some mp) :
    s.endPass p = ((s.setPlanner { s.planner with pass := none, result := none, flag := true }).setMap mp).issueCommand a m.source
      m.record.caseId := by
  rw [State.endPass_of_free h hh hp hf]
  exact State.issueResult_of_write _ ha hid hw

theorem State.endPass_of_refused {t : PlaceTarget} {id : CaseId} (h : s.choose p = some (a, m))
    (hh : s.planner.holds.any = false) (hp : p.prior = none) (hf : s.armFree = true) (ha : a = .place t)
    (hid : m.record.caseId = some id) (hw : s.writeRequest id t = none) :
    s.endPass p = s.setPlanner { s.planner with pass := none, result := none, flag := true } := by
  rw [State.endPass_of_free h hh hp hf]
  exact State.issueResult_of_refused _ ha hid hw

end Sys2Proof.Machine
end

section
/-! SUPPORT. The choice of a pass (R47 to R53): the scan and its best candidate, the case order, the earliest staged, the fallback. -/

namespace Sys2Proof.Machine

/-! ### The scan (R50) -/

/-- R50: a candidate comes before another in the scan: by row, then column, then orientation. -/
def ScanBefore (x y : Nat × Nat × Bool) : Prop :=
  x.2.1 < y.2.1 ∨ (x.2.1 = y.2.1 ∧ (x.1 < y.1 ∨ (x.1 = y.1 ∧ x.2.2 = false ∧ y.2.2 = true)))

/-- R38, R50: a candidate of a case: its anchor lies in the grid, and its orientation is allowed. -/
def IsCandidate (code : Nat) (faceLock : Bool) (c r : Nat) (o : Bool) : Prop :=
  c < gridColumns code ∧ r < gridRows code ∧ (faceLock = true → o = false)

theorem mem_orientations {faceLock o : Bool} : o ∈ orientations faceLock ↔ (faceLock = true → o = false) := by
  cases faceLock <;> cases o <;> decide

theorem mem_scanOrder {code : Nat} {faceLock : Bool} {c r : Nat} {o : Bool} :
    (c, r, o) ∈ scanOrder code faceLock ↔ IsCandidate code faceLock c r o := by
  simp only [scanOrder, IsCandidate, List.mem_flatMap, List.mem_map, List.mem_range, Prod.mk.injEq, mem_orientations]
  constructor
  · rintro ⟨_, hr, _, hc, _, ho, rfl, rfl, rfl⟩
    exact ⟨hc, hr, ho⟩
  · rintro ⟨hc, hr, ho⟩
    exact ⟨r, hr, c, hc, o, ho, rfl, rfl, rfl⟩

theorem orientations_pairwise (faceLock : Bool) : (orientations faceLock).Pairwise (fun o o' => o = false ∧ o' = true) := by
  cases faceLock <;> decide

/-- R50: the list of candidates stands in the order of the scan. -/
theorem scanOrder_pairwise (code : Nat) (faceLock : Bool) : (scanOrder code faceLock).Pairwise ScanBefore := by
  have row : ∀ r : Nat, ((List.range (gridColumns code)).flatMap
      (fun c => (orientations faceLock).map (fun o => (c, r, o)))).Pairwise ScanBefore := by
    intro r
    rw [List.pairwise_flatMap]
    refine ⟨fun c _ => ?_, List.pairwise_lt_range.imp fun {c c'} hc => ?_⟩
    · exact (orientations_pairwise faceLock).map _ fun o o' ho => .inr ⟨rfl, .inr ⟨rfl, ho⟩⟩
    · simp only [List.mem_map, forall_exists_index, and_imp]
      rintro _ o _ rfl _ o' _ rfl
      exact .inr ⟨rfl, .inl hc⟩
  rw [scanOrder, List.pairwise_flatMap]
  refine ⟨fun r _ => row r, List.pairwise_lt_range.imp fun {r r'} hr => ?_⟩
  simp only [List.mem_flatMap, List.mem_map, forall_exists_index, and_imp]
  rintro _ c _ o _ rfl _ c' _ o' _ rfl
  exact .inl hr

/-! ### The best candidate (R50) -/

section
variable (s : State) (effHeight effLoad : Nat) (f : Figures)

/-- R50: a place is the best of some candidates: feasible, of least rest, and of equals the first of the scan. -/
structure State.BestOf (xs : List (Nat × Nat × Bool)) (t : PlaceTarget) : Prop where
  figures_eq : t.figures = f
  mem : (t.col, t.row, t.turned) ∈ xs
  feasible_eq : s.feasible effHeight effLoad f t.col t.row t.turned = some t.rest
  least : ∀ y ∈ xs, ∀ rest, s.feasible effHeight effLoad f y.1 y.2.1 y.2.2 = some rest →
    t.rest ≤ rest ∧ (rest = t.rest → y = (t.col, t.row, t.turned) ∨ ScanBefore (t.col, t.row, t.turned) y)

variable {s effHeight effLoad f}

/-- R50: against every other candidate of the grid, the best has the lower rest, or the same and the earlier place in the scan. -/
theorem State.BestOf.first_of_least {t : PlaceTarget}
    (ht : s.BestOf effHeight effLoad f (scanOrder s.codeInUse f.faceLock) t) {c r rest : Nat} {o : Bool}
    (hallowed : IsCandidate s.codeInUse f.faceLock c r o) (hrest : s.feasible effHeight effLoad f c r o = some rest) :
    t.rest ≤ rest ∧ (rest = t.rest →
      t.row < r ∨ (t.row = r ∧ (t.col < c ∨ (t.col = c ∧ (t.turned = false ∨ o = true))))) := by
  obtain ⟨hle, hfirst⟩ := ht.least (c, r, o) (mem_scanOrder.mpr hallowed) rest hrest
  refine ⟨hle, fun heq => ?_⟩
  rcases hfirst heq with hsame | hbefore
  · obtain ⟨rfl, rfl, rfl⟩ := Prod.mk.injEq .. ▸ hsame
    cases t.turned <;> simp
  · exact hbefore.imp_right (And.imp_right (Or.imp_right (And.imp_right fun h => .inl h.1)))

/-- R50: a place that is the best of some candidates, and no worse than one more, is the best with it. -/
theorem State.BestOf.append_singleton {xs : List (Nat × Nat × Bool)} {x : Nat × Nat × Bool} {t : PlaceTarget}
    (ht : s.BestOf effHeight effLoad f xs t)
    (hx : ∀ rest, s.feasible effHeight effLoad f x.1 x.2.1 x.2.2 = some rest →
      t.rest ≤ rest ∧ ScanBefore (t.col, t.row, t.turned) x) :
    s.BestOf effHeight effLoad f (xs ++ [x]) t where
  figures_eq := ht.figures_eq
  mem := List.mem_append_left _ ht.mem
  feasible_eq := ht.feasible_eq
  least := List.forall_mem_append.mpr ⟨ht.least, List.forall_mem_singleton.mpr fun rest hrest =>
    ⟨(hx rest hrest).1, fun _ => .inr (hx rest hrest).2⟩⟩

/-- R50: a feasible candidate of a lower rest than any before it is the best with them. -/
theorem State.bestOf_of_lower {xs : List (Nat × Nat × Bool)} {x : Nat × Nat × Bool} {t : PlaceTarget} (hf : t.figures = f)
    (hx : (t.col, t.row, t.turned) = x) (ht : s.feasible effHeight effLoad f t.col t.row t.turned = some t.rest)
    (hxs : ∀ y ∈ xs, ∀ rest, s.feasible effHeight effLoad f y.1 y.2.1 y.2.2 = some rest → t.rest < rest) :
    s.BestOf effHeight effLoad f (xs ++ [x]) t where
  figures_eq := hf
  mem := by simp [hx]
  feasible_eq := ht
  least := by
    refine List.forall_mem_append.mpr ⟨fun y hy rest hrest => ?_, List.forall_mem_singleton.mpr fun rest hrest => ?_⟩
    · have hlt := hxs y hy rest hrest
      exact ⟨Nat.le_of_lt hlt, fun heq => absurd heq (Nat.ne_of_gt hlt)⟩
    · subst hx
      exact ⟨Nat.le_of_eq (Option.some.inj (ht.symm.trans hrest)), fun _ => .inl rfl⟩

theorem State.better_of_infeasible {x : Nat × Nat × Bool} (hx : s.feasible effHeight effLoad f x.1 x.2.1 x.2.2 = none)
    (best : Option PlaceTarget) : s.better effHeight effLoad f best x = best := by
  simp [State.better, hx]

/-- R50: the first feasible candidate is the best of those so far. -/
theorem State.better_none_bestOf {xs : List (Nat × Nat × Bool)} {x : Nat × Nat × Bool} {rest : Nat}
    (hx : s.feasible effHeight effLoad f x.1 x.2.1 x.2.2 = some rest)
    (hxs : ∀ y ∈ xs, s.feasible effHeight effLoad f y.1 y.2.1 y.2.2 = none) :
    ∃ t, s.better effHeight effLoad f none x = some t ∧ s.BestOf effHeight effLoad f (xs ++ [x]) t := by
  simp only [State.better, hx]
  exact ⟨_, rfl, State.bestOf_of_lower rfl rfl hx fun y hy rest' hrest' => by simp [hxs y hy] at hrest'⟩

/-- R50: one more feasible candidate replaces the best so far only with a lower rest. -/
theorem State.better_some_bestOf {xs : List (Nat × Nat × Bool)} {x : Nat × Nat × Bool} {rest : Nat} {b : PlaceTarget}
    (hx : s.feasible effHeight effLoad f x.1 x.2.1 x.2.2 = some rest) (hlast : ∀ y ∈ xs, ScanBefore y x)
    (hb : s.BestOf effHeight effLoad f xs b) :
    ∃ t, s.better effHeight effLoad f (some b) x = some t ∧ s.BestOf effHeight effLoad f (xs ++ [x]) t := by
  simp only [State.better, hx]
  by_cases hlow : rest < b.rest
  · rw [if_pos hlow]
    exact ⟨_, rfl, State.bestOf_of_lower rfl rfl hx fun y hy rest' hrest' =>
      Nat.lt_of_lt_of_le hlow (hb.least y hy rest' hrest').1⟩
  · rw [if_neg hlow]
    refine ⟨b, rfl, hb.append_singleton fun rest' hrest' => ⟨?_, hlast _ hb.mem⟩⟩
    exact Option.some.inj (hx.symm.trans hrest') ▸ Nat.not_lt.mp hlow

/-- R50: what a scan has found after some candidates: their best, or nothing where none of them is feasible. -/
def State.Found (s : State) (effHeight effLoad : Nat) (f : Figures) (xs : List (Nat × Nat × Bool)) : Option PlaceTarget → Prop
  | none => ∀ y ∈ xs, s.feasible effHeight effLoad f y.1 y.2.1 y.2.2 = none
  | some t => s.BestOf effHeight effLoad f xs t

/-- R50: one more candidate, after those before it in the scan. -/
theorem State.Found.better {xs : List (Nat × Nat × Bool)} {best : Option PlaceTarget} (h : s.Found effHeight effLoad f xs best)
    {x : Nat × Nat × Bool} (hlast : ∀ y ∈ xs, ScanBefore y x) :
    s.Found effHeight effLoad f (xs ++ [x]) (s.better effHeight effLoad f best x) := by
  cases hx : s.feasible effHeight effLoad f x.1 x.2.1 x.2.2 with
  | none =>
    rw [State.better_of_infeasible hx]
    cases best with
    | none => exact List.forall_mem_append.mpr ⟨h, List.forall_mem_singleton.mpr hx⟩
    | some t => exact State.BestOf.append_singleton h fun rest hrest => nomatch hx.symm.trans hrest
  | some rest =>
    cases best with
    | none =>
      obtain ⟨t, hbetter, ht⟩ := State.better_none_bestOf hx h
      exact hbetter ▸ ht
    | some b =>
      obtain ⟨t, hbetter, ht⟩ := State.better_some_bestOf hx hlast h
      exact hbetter ▸ ht

/-- R50: the fold over the rest of the scan keeps what has been found. -/
theorem State.Found.foldl_better (xs : List (Nat × Nat × Bool)) {seen : List (Nat × Nat × Bool)} {best : Option PlaceTarget}
    (h : s.Found effHeight effLoad f seen best) (hord : (seen ++ xs).Pairwise ScanBefore) :
    s.Found effHeight effLoad f (seen ++ xs) (xs.foldl (s.better effHeight effLoad f) best) := by
  induction xs generalizing seen best with
  | nil => rwa [List.append_nil]
  | cons x xs ih =>
    obtain ⟨-, -, hcross⟩ := List.pairwise_append.mp hord
    rw [List.append_cons] at hord ⊢
    exact ih (h.better fun y hy => hcross y hy x List.mem_cons_self) hord

/-- R50: the best candidate of a case, over the whole scan. -/
theorem State.found_bestPlace (s : State) (effHeight effLoad : Nat) (f : Figures) :
    s.Found effHeight effLoad f (scanOrder s.codeInUse f.faceLock) (s.bestPlace effHeight effLoad f) := by
  have hstart : s.Found effHeight effLoad f [] none := fun y hy => nomatch hy
  exact hstart.foldl_better _ (scanOrder_pairwise s.codeInUse f.faceLock)

end

/-! ### The first case with a place (R50) -/

/-- R50: no candidate of a case is feasible. -/
def State.NoPlace (s : State) (p : Pass) (m : Member) : Prop :=
  ∀ f c r o, m.figures = some f → IsCandidate s.codeInUse f.faceLock c r o → s.feasible p.effHeight p.effLoad f c r o = none

/-- R50: the best candidate of a case that a pass finds, its best of all candidates, or none where none is feasible. -/
theorem State.bestPlace_cases (s : State) (p : Pass) {m : Member} {f : Figures} (hf : m.figures = some f) :
    (s.bestPlace p.effHeight p.effLoad f = none ∧ s.NoPlace p m) ∨
      ∃ t, s.bestPlace p.effHeight p.effLoad f = some t ∧ s.BestOf p.effHeight p.effLoad f (scanOrder s.codeInUse f.faceLock) t := by
  have hfound := s.found_bestPlace p.effHeight p.effLoad f
  cases hbest : s.bestPlace p.effHeight p.effLoad f with
  | none =>
    rw [hbest] at hfound
    refine .inl ⟨rfl, fun f' c r o hf' hcandidate => ?_⟩
    obtain rfl := Option.some.inj (hf.symm.trans hf')
    exact hfound (c, r, o) (mem_scanOrder.mpr hcandidate)
  | some t =>
    rw [hbest] at hfound
    exact .inr ⟨t, rfl, hfound⟩

theorem State.bestPlace_of_noPlace {s : State} {p : Pass} {m : Member} {f : Figures} (hf : m.figures = some f) (hm : s.NoPlace p m) :
    s.bestPlace p.effHeight p.effLoad f = none := by
  rcases s.bestPlace_cases p hf with ⟨hnone, -⟩ | ⟨t, -, ht⟩
  · exact hnone
  · exact absurd ht.feasible_eq (by simp [hm f _ _ _ hf (mem_scanOrder.mp ht.mem)])

/-- R50: a case with no place is passed over. -/
theorem State.firstPlace_cons_of_noPlace {s : State} {p : Pass} {m : Member} (hm : s.NoPlace p m) (ms : List Member) :
    s.firstPlace p (m :: ms) = s.firstPlace p ms := by
  cases hf : m.figures with
  | none => simp [State.firstPlace, hf]
  | some f => simp [State.firstPlace, hf, State.bestPlace_of_noPlace hf hm]

theorem State.firstPlace_append_of_noPlace {s : State} {p : Pass} {before : List Member} (h : ∀ x ∈ before, s.NoPlace p x)
    (after : List Member) : s.firstPlace p (before ++ after) = s.firstPlace p after := by
  induction before with
  | nil => rfl
  | cons x xs ih =>
    obtain ⟨hx, hxs⟩ := List.forall_mem_cons.mp h
    rw [List.cons_append, State.firstPlace_cons_of_noPlace hx, ih hxs]

theorem State.firstPlace_of_noPlace {s : State} {p : Pass} {ms : List Member} (h : ∀ x ∈ ms, s.NoPlace p x) :
    s.firstPlace p ms = none := by
  simpa [State.firstPlace] using State.firstPlace_append_of_noPlace h []

/-- R50: a case with a place is chosen with the best of its candidates. -/
theorem State.firstPlace_cons_of_place {s : State} {p : Pass} {m : Member} {f : Figures} (hf : m.figures = some f)
    (hm : ¬ s.NoPlace p m) (ms : List Member) :
    ∃ t, s.firstPlace p (m :: ms) = some (.place t, m) ∧
      s.BestOf p.effHeight p.effLoad f (scanOrder s.codeInUse f.faceLock) t := by
  rcases s.bestPlace_cases p hf with ⟨-, hno⟩ | ⟨t, hsome, ht⟩
  · exact absurd hno hm
  · exact ⟨t, by simp [State.firstPlace, hf, hsome], ht⟩

/-! ### The case order (R49) -/

theorem insertBy_perm {α : Type} (before : α → α → Bool) (x : α) (xs : List α) : (insertBy before x xs).Perm (x :: xs) := by
  induction xs with
  | nil => exact .refl _
  | cons y ys ih =>
    unfold insertBy
    split
    · exact .refl _
    · exact (ih.cons y).trans (.swap x y ys)

theorem foldl_insertBy_perm {α : Type} (before : α → α → Bool) (xs acc : List α) :
    (xs.foldl (fun acc x => insertBy before x acc) acc).Perm (xs ++ acc) := by
  induction xs generalizing acc with
  | nil => exact .refl _
  | cons x xs ih => exact ((ih _).trans ((insertBy_perm before x acc).append_left xs)).trans List.perm_middle

theorem caseOrder_perm (ms : List Member) : (caseOrder ms).Perm ms := by
  simpa [caseOrder, sortBy] using foldl_insertBy_perm caseBefore ms []

theorem caseOrder_pair (x y : Member) : caseOrder [x, y] = if caseBefore y x then [y, x] else [x, y] := rfl

/-- R49: rank, then class, then mass, then staging time. -/
theorem caseBefore_eq_true {x y : Member} {a b : Figures} (hx : x.figures = some a) (hy : y.figures = some b) :
    caseBefore x y = true ↔ b.rank < a.rank ∨ (a.rank = b.rank ∧ (a.crushClass < b.crushClass ∨ (a.crushClass = b.crushClass ∧
      (b.m < a.m ∨ (a.m = b.m ∧ 0 < (y.record.staged - x.record.staged).toInt))))) := by
  simp only [caseBefore, hx, hy, earlier, isPast, travelDiff]
  by_cases hr : a.rank = b.rank
  · by_cases hc : a.crushClass = b.crushClass
    · by_cases hm : a.m = b.m <;> simp [hr, hc, hm]
    · simp [hr, hc]
  · simp [hr]

/-! ### The earliest staged (R52) -/

/-- R52, log 25: one more case is the earliest only where its staging time lies before that of the earliest so far. -/
theorem earliest_append_singleton (ms : List Member) (y : Member) :
    earliest (ms ++ [y]) = some (match earliest ms with
      | some x => if 0 < (x.record.staged - y.record.staged).toInt then y else x
      | none => y) := by
  cases ms with
  | nil => rfl
  | cons m ms => simp [earliest, earlier, isPast, travelDiff]

/-- R52: a fold that takes one of two each time ends with a member. -/
theorem foldl_select_mem {α : Type} (later : α → α → Bool) (ms : List α) (m : α) :
    ms.foldl (fun a b => if later b a then b else a) m ∈ m :: ms := by
  induction ms generalizing m with
  | nil => exact List.mem_singleton_self m
  | cons x xs ih =>
    rw [List.foldl_cons]
    split
    · exact List.mem_cons_of_mem m (ih x)
    · rcases List.mem_cons.mp (ih m) with hm | hxs
      · exact List.mem_cons.mpr (.inl hm)
      · exact List.mem_cons_of_mem m (List.mem_cons_of_mem x hxs)

theorem earliest_mem {ms : List Member} {m : Member} (h : earliest ms = some m) : m ∈ ms := by
  cases ms with
  | nil => cases h
  | cons x xs =>
    rw [earliest, Option.some.injEq] at h
    rw [← h]
    exact foldl_select_mem (fun b a : Member => earlier b.record.staged a.record.staged) xs x

theorem earliest_isSome {ms : List Member} (h : ms ≠ []) : ∃ m, earliest ms = some m := by
  cases ms with
  | nil => exact absurd rfl h
  | cons m ms => exact ⟨_, rfl⟩

/-! ### The fallback (R51, R52) -/

theorem State.hopeless_eq_any (s : State) (p : Pass) :
    s.hopeless p = fun m => m.figures.any (fun f =>
      decide (p.effHeight < f.h + p.lowest ∨ p.effLoad < s.map.standing.m + p.won ∨
        fitsSomewhere s.codeInUse f.length f.width f.faceLock = false ∨ m.shut = true ∨ p.phase = some .closing)) := by
  funext m
  cases hf : m.figures with
  | none => simp [State.hopeless, hf]
  | some f => simp [State.hopeless, hf, Bool.or_assoc]

/-- The members of a source are not found among buffered ones. -/
theorem find?_source_of_buffered {ms : List Member} (h : ∀ x ∈ ms, ∃ b, x.source = .buffer b) {src : Source}
    (hsrc : ∀ b, src ≠ .buffer b) : ms.find? (fun m => decide (m.source = src)) = none := by
  rw [List.find?_eq_none]
  intro x hx
  obtain ⟨b, hb⟩ := h x hx
  simpa [hb] using (hsrc b).symm

variable {s : State} {p : Pass} {m : Member}

theorem State.fallback_gripper (h : p.members = [m]) (hm : m.source = .gripper) : s.fallback p = some (.ret, m) := by
  simp [State.fallback, h, hm]

/-- R52: a lane case stands before the buffered ones, and no gripper case with them. -/
theorem find?_source_of_lane {m : Member} {rest : List Member} (hm : m.source = .lane) (hrest : ∀ x ∈ rest, ∃ b, x.source = .buffer b) :
    (m :: rest).find? (fun x => decide (x.source = .gripper)) = none ∧
      (m :: rest).find? (fun x => decide (x.source = .lane)) = some m := by
  simp [hm, find?_source_of_buffered hrest]

section
variable {rest : List Member} (h : p.members = m :: rest) (hm : m.source = .lane) (hrest : ∀ x ∈ rest, ∃ b, x.source = .buffer b)
include h hm hrest

/-- R52 step 2. -/
theorem State.fallback_lane_hopeless (hh : s.hopeless p m = true) : s.fallback p = some (.ret, m) := by
  obtain ⟨hgrip, hlane⟩ := find?_source_of_lane hm hrest
  simp only [State.fallback, h, hgrip, hlane, hh, if_true]

/-- R52 step 3. -/
theorem State.fallback_lane_setAside (hh : s.hopeless p m = false) {b : Nat} (hb : p.freeBuffer = some b) :
    s.fallback p = some (.setAside b, m) := by
  obtain ⟨hgrip, hlane⟩ := find?_source_of_lane hm hrest
  simp only [State.fallback, h, hgrip, hlane, hh, hb, Bool.false_eq_true, if_false]

/-- R52 step 4. -/
theorem State.fallback_lane_full (hh : s.hopeless p m = false) (hb : p.freeBuffer = none) :
    s.fallback p = (earliest p.members).map (fun x => (.ret, x)) := by
  obtain ⟨hgrip, hlane⟩ := find?_source_of_lane hm hrest
  simp only [State.fallback, h, hgrip, hlane, hh, hb, Bool.false_eq_true, if_false]

end

/-- R52 steps 5 and 6: buffered cases alone. -/
theorem State.fallback_buffered (h : ∀ x ∈ p.members, ∃ b, x.source = .buffer b) :
    s.fallback p = (earliest (p.members.filter (s.hopeless p))).map (fun x => (.ret, x)) := by
  simp only [State.fallback, find?_source_of_buffered h (src := .gripper) (by simp),
    find?_source_of_buffered h (src := .lane) (by simp)]

theorem State.fallback_buffered_none (h : ∀ x ∈ p.members, ∃ b, x.source = .buffer b) (hno : ∀ x ∈ p.members, s.hopeless p x = false) :
    s.fallback p = none := by
  have hnil : p.members.filter (s.hopeless p) = [] := by simpa using hno
  rw [State.fallback_buffered h, hnil]
  rfl

theorem State.fallback_buffered_hopeless (h : ∀ x ∈ p.members, ∃ b, x.source = .buffer b)
    (hsome : ∃ x ∈ p.members, s.hopeless p x = true) : ∃ x ∈ p.members, s.hopeless p x = true ∧ s.fallback p = some (.ret, x) := by
  obtain ⟨x, hx, hhope⟩ := hsome
  obtain ⟨y, hy⟩ := earliest_isSome (List.ne_nil_of_mem (List.mem_filter.mpr ⟨hx, hhope⟩))
  obtain ⟨hmem, hyhope⟩ := List.mem_filter.mp (earliest_mem hy)
  exact ⟨y, hmem, hyhope, by rw [State.fallback_buffered h, hy]; rfl⟩

/-! ### The choice (R47 to R53) -/

theorem Member.outcast_eq_true : m.outcast = true ↔ m.figures = none ∨ m.excess = true := by
  simp [Member.outcast]

/-- R53: the model's question whether a pass only returns cases is the denial of its conditions to plan. -/
theorem Pass.returns_iff : (p.phase ≠ some .active ∨ p.disposition = .ret) ↔ ¬ (p.phase = some .active ∧ p.disposition ≠ .ret) := by
  rw [Decidable.not_and_iff_not_or_not, Decidable.not_not]

/-- R53: outside ACTIVE, and for a gripper case with disposition RETURN, the first member is returned. -/
theorem State.choose_of_not_planning (h : ¬ (p.phase = some .active ∧ p.disposition ≠ .ret)) :
    s.choose p = p.members.head?.map (fun x => (.ret, x)) := by
  rw [State.choose, if_pos (Pass.returns_iff.mpr h)]

/-- R48: the first case that cannot belong to the pallet is returned. -/
theorem State.choose_of_outcast (hp : p.phase = some .active ∧ p.disposition ≠ .ret) {before after : List Member}
    (h : p.members = before ++ m :: after) (hb : ∀ x ∈ before, ¬ (x.figures = none ∨ x.excess = true))
    (hm : m.figures = none ∨ m.excess = true) : s.choose p = some (.ret, m) := by
  have hfind : p.members.find? Member.outcast = some m :=
    List.find?_eq_some_iff_append.mpr ⟨Member.outcast_eq_true.mpr hm, before, after, h,
      fun x hx => by simpa using mt Member.outcast_eq_true.mp (hb x hx)⟩
  rw [State.choose, if_neg fun h => Pass.returns_iff.mp h hp, hfind]

/-- R50, R52: with no case to cast out, the first place, and the fallback where there is none. -/
theorem State.choose_of_no_outcast (hp : p.phase = some .active ∧ p.disposition ≠ .ret)
    (h : ∀ x ∈ p.members, ¬ (x.figures = none ∨ x.excess = true)) :
    s.choose p = (s.firstPlace p (caseOrder p.members)).or (s.fallback p) := by
  have hfind : p.members.find? Member.outcast = none :=
    List.find?_eq_none.mpr fun x hx => mt Member.outcast_eq_true.mp (h x hx)
  rw [State.choose, if_neg fun h => Pass.returns_iff.mp h hp, hfind]
  cases s.firstPlace p (caseOrder p.members) <;> rfl

theorem State.choose_of_noPlace (hp : p.phase = some .active ∧ p.disposition ≠ .ret)
    (h : ∀ x ∈ p.members, ¬ (x.figures = none ∨ x.excess = true)) (hno : ∀ x ∈ p.members, s.NoPlace p x) :
    s.choose p = s.fallback p := by
  have hnone : s.firstPlace p (caseOrder p.members) = none :=
    State.firstPlace_of_noPlace fun x hx => hno x ((caseOrder_perm p.members).mem_iff.mp hx)
  rw [State.choose_of_no_outcast hp h, hnone, Option.none_or]

/-- R50: the first case in case order with a place is placed at its best candidate. -/
theorem State.choose_of_place (hp : p.phase = some .active ∧ p.disposition ≠ .ret)
    (h : ∀ x ∈ p.members, ¬ (x.figures = none ∨ x.excess = true)) {before after : List Member} {f : Figures}
    (hsplit : caseOrder p.members = before ++ m :: after) (hb : ∀ x ∈ before, s.NoPlace p x) (hf : m.figures = some f)
    (hm : ¬ s.NoPlace p m) :
    ∃ t, s.choose p = some (.place t, m) ∧ s.BestOf p.effHeight p.effLoad f (scanOrder s.codeInUse f.faceLock) t := by
  obtain ⟨t, hfirst, ht⟩ := State.firstPlace_cons_of_place hf hm after
  refine ⟨t, ?_, ht⟩
  rw [State.choose_of_no_outcast hp h, hsplit, State.firstPlace_append_of_noPlace hb, hfirst, Option.some_or]

end Sys2Proof.Machine

open Sys2Proof Sys2Proof.Machine

/-- Settles O51: a start and an end by the branches of the model's pass, and the choice by its own order of questions. -/
theorem passesStartAndEnd : Obligations.PassesStartAndEnd := by
  intro s free may
  refine ⟨?_, ?_, exec_planningPassEnd_of_no_pass s, fun p hpass => ?_, fun p => ?_⟩
  · exact fun h => exec_planningPassStart_of_canStart s (s.canStart_eq_true.mpr h)
  · exact fun h => exec_planningPassStart_of_not_canStart s (mt s.canStart_eq_true.mp h)
  · intro without
    rw [exec_planningPassEnd_of_pass s hpass]
    refine ⟨fun h => by rw [State.endPass_of_no_choice h]; rfl, fun a m h => ?_⟩
    intro cmd
    refine ⟨fun hh => ?_, fun c hh hp => ?_, fun hh hp hf => ?_, fun hh hp hf ha => ?_, fun tgt id mp hh hp hf ha hid hw => ?_,
      fun tgt id hh hp hf ha hid hw => ?_⟩
    · rw [State.endPass_of_hold h hh]; rfl
    · rw [State.endPass_of_prior h hh hp]; rfl
    · rw [State.endPass_of_busy h hh hp (mt s.armFree_eq_true.mp hf)]; rfl
    · rw [State.endPass_of_not_place h hh hp (s.armFree_eq_true.mpr hf) ha]
      exact ⟨_, rfl, by simp [State.issueCommand_command, cmd]⟩
    · rw [State.endPass_of_write h hh hp (s.armFree_eq_true.mpr hf) ha hid hw]
      exact ⟨_, rfl, by simp [State.issueCommand_command, cmd]⟩
    · rw [State.endPass_of_refused h hh hp (s.armFree_eq_true.mpr hf) ha hid hw]; rfl
  · intro feasible allowed hopelessNow noPlace planning outcast
    have hhopeless : s.hopeless p = hopelessNow := s.hopeless_eq_any p
    rw [← hhopeless]
    refine ⟨State.choose_of_not_planning, fun hplan => ⟨?_, fun hout => ⟨?_, fun hno => ?_⟩⟩, caseOrder_perm _, caseOrder_pair,
      earliest_append_singleton, fun x y a b => caseBefore_eq_true⟩
    · exact fun before m after => State.choose_of_outcast hplan
    · intro before m after f hsplit hbefore hf hm
      obtain ⟨t, hchoose, ht⟩ := State.choose_of_place hplan hout hsplit hbefore hf hm
      exact ⟨t, hchoose, ht.figures_eq, mem_scanOrder.mp ht.mem, ht.feasible_eq, fun c r o rest => ht.first_of_least⟩
    · rw [State.choose_of_noPlace hplan hout hno]
      refine ⟨fun m => State.fallback_gripper, fun m rest h hm hrest => ⟨?_, fun b => ?_, ?_⟩, fun hbuf => ⟨?_, fun hsome => ⟨?_, ?_⟩⟩⟩
      · exact State.fallback_lane_hopeless h hm hrest
      · exact fun hh hb => State.fallback_lane_setAside h hm hrest hh hb
      · exact State.fallback_lane_full h hm hrest
      · exact State.fallback_buffered_none hbuf
      · exact State.fallback_buffered hbuf
      · exact State.fallback_buffered_hopeless hbuf hsome
end

section
/-! SUPPORT. Another station's frame that is damaged or voided (R63, R64, R74, R76): when the part may drive, and what it enters. -/

namespace Sys2Proof.Machine

variable {s : State} {levels : List Bool}

/-- R64, R76: a part that hears may drive as a receiver while not muted, in line mode FULL or with a station number. -/
theorem State.mayVeto_iff (h : s.bus.hears = true) :
    s.mayVeto = true ↔ s.bus.muted = false ∧ (s.bus.mode = .full ∨ s.start.station ≠ none) := by
  have hon : s.bus.mode ≠ .off := by
    simp only [Bus.hears, Bool.and_eq_true, decide_eq_true_eq] at h
    exact h.1
  cases hm : s.bus.mode with
  | off => exact absurd hm hon
  | listen => simp [State.mayVeto, hm, Option.isSome_iff_ne_none]
  | full => simp [State.mayVeto, hm]

theorem State.damaged_of_not_mayVeto (h : ¬ s.mayVeto = true) (check inField : Bool) :
    s.damaged check inField = s.frameSeen false false .recessive := if_neg h

theorem State.damaged_check (h : s.mayVeto = true) (inField : Bool) :
    s.damaged true inField = s.frameSeen true false .vetoAndEcho := if_pos h

theorem State.damaged_after_field (h : s.mayVeto = true) : s.damaged false false = s.frameSeen true false .brk := if_pos h

theorem State.damaged_in_field (h : s.mayVeto = true) :
    s.damaged false true = s.setBus { s.bus with drive := .brk, idle := false } := if_pos h

theorem exec_damagedFrame_badCheck (h : s.bus.hears = true) (ht : takeIn levels = .badCheck) :
    exec (.damagedFrame levels) s = .next (s.damaged true false).finish := by
  simp [exec, execDamagedFrame, goes, h, ht]

theorem exec_damagedFrame_badLength (h : s.bus.hears = true) (ht : takeIn levels = .badLength) :
    exec (.damagedFrame levels) s = .next (s.damaged false false).finish := by
  simp [exec, execDamagedFrame, goes, h, ht]

theorem exec_damagedFrame_missingFill {inField : Bool} (h : s.bus.hears = true) (ht : takeIn levels = .missingFill inField) :
    exec (.damagedFrame levels) s = .next (s.damaged false inField).finish := by
  simp [exec, execDamagedFrame, goes, h, ht]

theorem exec_voidedFrame {how : VoidCause} (h : s.bus.hears = true) (hc : how ≠ .clash) :
    exec (.voidedFrame how) s =
      .next (s.frameSeen false (voidedInSlot how) (if how = .veto ∧ s.mayVeto = true then .echo else .recessive)).finish := by
  simp [exec, execVoidedFrame, goes, h, hc]

end Sys2Proof.Machine

open Sys2Proof Sys2Proof.Machine

/-- Settles O23: the three kinds of damage by what the part may drive, then the three causes of a voided frame. -/
theorem damagedFramesAreVetoedAndEchoed : Obligations.DamagedFramesAreVetoedAndEchoed := by
  intro levels s h may
  have hmay : s.mayVeto = true ↔ may := State.mayVeto_iff h
  refine ⟨fun ht hm => ?_, fun ht hm => ?_, fun ht hm => ?_, fun ht hm => ?_, fun hm => ?_, fun hm => ?_, ?_, ?_⟩
  · rw [exec_damagedFrame_badCheck h ht, State.damaged_check (hmay.mpr hm)]
  · rcases ht with ht | ht
    · rw [exec_damagedFrame_badLength h ht, State.damaged_after_field (hmay.mpr hm)]
    · rw [exec_damagedFrame_missingFill h ht, State.damaged_after_field (hmay.mpr hm)]
  · rw [exec_damagedFrame_missingFill h ht, State.damaged_in_field (hmay.mpr hm)]
    rfl
  · have hdeaf := State.damaged_of_not_mayVeto (mt hmay.mp hm)
    rcases ht with ht | ht | ⟨inField, ht⟩
    · rw [exec_damagedFrame_badCheck h ht, hdeaf]
    · rw [exec_damagedFrame_badLength h ht, hdeaf]
    · rw [exec_damagedFrame_missingFill h ht, hdeaf]
  · rw [exec_voidedFrame h (by decide), if_pos ⟨rfl, hmay.mpr hm⟩]
    rfl
  · rw [exec_voidedFrame h (by decide), if_neg fun hd => hm (hmay.mp hd.2)]
    rfl
  · exact exec_voidedFrame h (by decide)
  · exact exec_voidedFrame h (by decide)
end

section
/-! SUPPORT. The contention for a line found idle (R70, R77, R93): the frame at the head begins, or its claim has expired. -/

namespace Sys2Proof.Machine

variable {s : State} {f : TxFrame} {rest : List TxFrame} {c : CaseId} {lap : Byte}

/-! ### The end of a step with nothing but the line to see to (log 6) -/

theorem State.issueReleased_of_no_result (h : s.planner.result = none) : s.issueReleased = s := by
  simp [State.issueReleased, h]

theorem State.returnHeld_of_no_hold (h : s.planner.holds.any = false) : s.returnHeld = s := by
  unfold State.returnHeld
  split <;> simp [h]

/-- R16, R20: no drain ends before a job is CLOSING. -/
theorem State.drainTest_of_open (h : ∀ r, s.job.record = some r → r.phase = .collecting ∨ r.phase = .active) : s.drainTest = s := by
  unfold State.drainTest
  split
  · rfl
  · rename_i r hr
    rcases h r hr with hp | hp <;> simp [hp]

theorem State.finish_eq_contend (hr : s.planner.result = none) (hh : s.planner.holds.any = false)
    (hj : ∀ r, s.job.record = some r → r.phase = .collecting ∨ r.phase = .active) : s.finish = s.contend := by
  rw [State.finish, State.issueReleased_of_no_result hr, State.returnHeld_of_no_hold hh, State.drainTest_of_open hj]

/-! ### Frames of the queue -/

theorem Bus.sendingFrame_eq_none {b : Bus} : b.sendingFrame = none ↔ ∀ g ∈ b.queue, g.sending = false := by
  simp [Bus.sendingFrame]

theorem Bus.firstWaiting_of_head {b : Bus} (hq : b.queue = f :: rest) (hf : f.sending = false) : b.firstWaiting = some f := by
  simp [Bus.firstWaiting, hq, hf]

/-! ### The contention (R70) -/

theorem State.contend_of_not_full (h : s.bus.mode ≠ .full) : s.contend = s := if_neg fun hc => h hc.1

theorem State.contend_of_busy (h : s.bus.idle = false) : s.contend = s := if_neg fun hc => by simp [h] at hc

/-- The contention leaves the job record: a beginning ADOPT changes the offer record alone (R4). -/
theorem State.contend_record (s : State) : s.contend.job.record = s.job.record := by
  have begun : ∀ (u : State) (g : TxFrame), (u.beginSending g).job.record = u.job.record := by
    intro u g
    unfold State.beginSending
    split <;> rfl
  have chosen : ∀ (n : Nat) (u : State), (State.chooseFrame n u).job.record = u.job.record := by
    intro n
    induction n with
    | zero => exact fun u => rfl
    | succ n ih =>
      intro u
      unfold State.chooseFrame
      (repeat' split) <;> simp [begun, ih]
  unfold State.contend
  split
  · exact chosen _ s
  · rfl

/-- R4, R70: the frame at the head begins, and with an ADOPT the bid of its job id (log 54). -/
theorem State.beginSending_head (hq : s.bus.queue = f :: rest) (hf : f.sending = false) :
    s.beginSending f = { s with
      bus := { s.bus with queue := { f with sending := true } :: rest, idle := false, drive := .recessive }
      job := { s.job with offer := s.job.offer.map (fun o => if f.payload = .adopt o.job then { o with bid := .sending } else o) } } := by
  unfold State.beginSending
  cases hp : f.payload with
  | adopt j => simp [State.setBid, State.setBus, State.setJob, hq, markSending, hf, hp, eq_comm]
  | _ => simp [State.setBus, hq, markSending, hf, hp]

/-- R70, R93: the frame at the head begins, a CLAIM only while it stands. -/
theorem State.contend_of_head (hm : s.bus.mode = .full) (hi : s.bus.idle = true) (hn : s.bus.sendingFrame = none)
    (hq : s.bus.queue = f :: rest) (hs : ∀ c lap, f.payload = .claim c lap → s.claimStands c lap = true) :
    s.contend = s.beginSending f := by
  have hf : f.sending = false := Bus.sendingFrame_eq_none.mp hn f (hq ▸ List.mem_cons_self)
  rw [State.contend, if_pos ⟨hm, hi, hn⟩, hq, List.length_cons, State.chooseFrame, Bus.firstWaiting_of_head hq hf]
  cases hp : f.payload with
  | claim c lap => simp [hp, hs c lap hp]
  | _ => simp [hp]

/-! ### An expired CLAIM (R93, R94, log 44) -/

/-- R80: the entry of a case id is the only one that carries it. -/
theorem State.eq_of_sighting {e x : Sighting} (hd : (s.claim.sightings.map (fun e => e.caseId)).Nodup) (he : s.sighting c = some e)
    (hx : x ∈ s.claim.sightings) (hc : x.caseId = c) : x = e := by
  obtain ⟨hec, before, after, hsplit, hbefore⟩ := List.find?_eq_some_iff_append.mp he
  rw [hsplit, List.map_append, List.map_cons] at hd
  have hafter : e.caseId ∉ after.map (fun e => e.caseId) := (List.nodup_cons.mp (List.nodup_append.mp hd).2.1).1
  rw [hsplit] at hx
  rcases List.mem_append.mp hx with hx | hx
  · exact absurd hc (by simpa only [Bool.not_eq_true', decide_eq_false_iff_not] using hbefore x hx)
  · rcases List.mem_cons.mp hx with rfl | hx
    · rfl
    · exact absurd (List.mem_map.mpr ⟨x, hx, hc.trans (of_decide_eq_true hec).symm⟩) hafter

/-- The entry of a case id after its own change. -/
theorem State.updSighting_sighting {g : Sighting → Sighting} (hg : ∀ e, (g e).caseId = e.caseId) :
    (s.updSighting c g).sighting c = (s.sighting c).map g := by
  have hkeep : ∀ e : Sighting, (if e.caseId = c then g e else e).caseId = e.caseId := by
    intro e
    split
    · exact hg e
    · rfl
  simp only [State.sighting, State.updSighting, State.setClaim_claim, List.find?_map, Function.comp_def, hkeep]
  refine Option.map_congr fun e he => if_pos ?_
  simpa using List.find?_some he

/-- R87: a case within the claim margin is not claimed. -/
theorem State.decideClaim_of_no_margin (h : ∀ e, s.sighting c = some e → s.marginLeft e = false) : s.decideClaim c = s := by
  unfold State.decideClaim
  split
  · rfl
  · rename_i e he
    have hno : ∀ l, s.claimHolds e l = false := fun l => by simp [State.claimHolds, h e he]
    split <;> simp [hno]

/-- R93: a CLAIM stands while its entry is CLAIMING on its lap with more than the claim margin left. -/
theorem State.claimStands_iff (hd : (s.claim.sightings.map (fun e => e.caseId)).Nodup) :
    s.claimStands c lap = true ↔ ∃ e ∈ s.claim.sightings, e.caseId = c ∧ e.state = .claiming ∧ e.lap = lap.toNat ∧
      (s.start.cfg.claimMargin : Int) < (e.arrival - s.travel.count).toInt := by
  have hread : s.claimStands c lap = true ↔
      ∃ e, s.sighting c = some e ∧ e.state = .claiming ∧ e.lap = lap.toNat ∧ s.marginLeft e = true := by
    unfold State.claimStands
    cases s.sighting c <;> simp [and_assoc]
  rw [hread]
  constructor
  · rintro ⟨e, he, hst, hl, hm⟩
    exact ⟨e, List.mem_of_find?_eq_some he, by simpa using List.find?_some he, hst, hl, by simpa [State.marginLeft, travelDiff] using hm⟩
  · rintro ⟨e, hmem, hc, hst, hl, hm⟩
    have hsome : (s.sighting c).isSome = true := List.find?_isSome.mpr ⟨e, hmem, by simpa using hc⟩
    obtain ⟨x, hx⟩ := Option.isSome_iff_exists.mp hsome
    obtain rfl := State.eq_of_sighting hd hx hmem hc
    exact ⟨e, hx, hst, hl, by simpa [State.marginLeft, travelDiff] using hm⟩

/-- R93: an entry after the CLAIM of a case and a lap has expired. -/
def Sighting.expired (c : CaseId) (lap : Byte) (e : Sighting) : Sighting :=
  if e.caseId = c ∧ e.lap = lap.toNat then { e with state := if e.state = .claiming then .free else e.state, queued := false } else e

/-- R93: the table after the CLAIM of a case and a lap has expired. -/
def State.claimExpired (s : State) (c : CaseId) (lap : Byte) : State :=
  s.setClaim { s.claim with sightings := s.claim.sightings.map (Sighting.expired c lap) }

theorem State.claimExpired_of_none (h : s.sighting c = none) : s.claimExpired c lap = s := by
  have hno : ∀ e ∈ s.claim.sightings, Sighting.expired c lap e = e := fun e he =>
    if_neg fun hc => by simpa [hc.1] using List.find?_eq_none.mp h e he
  rw [State.claimExpired, List.map_congr_left hno, List.map_id']
  rfl

theorem State.claimExpired_of_other_lap {e : Sighting} (hd : (s.claim.sightings.map (fun e => e.caseId)).Nodup)
    (he : s.sighting c = some e) (hl : e.lap ≠ lap.toNat) : s.claimExpired c lap = s := by
  have hno : ∀ x ∈ s.claim.sightings, Sighting.expired c lap x = x := fun x hx =>
    if_neg fun hc : x.caseId = c ∧ x.lap = lap.toNat => hl (State.eq_of_sighting hd he hx hc.1 ▸ hc.2)
  rw [State.claimExpired, List.map_congr_left hno, List.map_id']
  rfl

theorem State.claimExpired_of_lap {e : Sighting} {g : Sighting → Sighting}
    (hd : (s.claim.sightings.map (fun e => e.caseId)).Nodup) (he : s.sighting c = some e) (hl : e.lap = lap.toNat)
    (hg : g e = { e with state := if e.state = .claiming then .free else e.state, queued := false }) :
    s.claimExpired c lap = s.updSighting c g := by
  have hsame : ∀ x ∈ s.claim.sightings, Sighting.expired c lap x = if x.caseId = c then g x else x := by
    intro x hx
    by_cases hc : x.caseId = c
    · obtain rfl := State.eq_of_sighting hd he hx hc
      simp [Sighting.expired, hc, hl, hg]
    · simp [Sighting.expired, hc]
  rw [State.claimExpired, List.map_congr_left hsame]
  rfl

/-- R93, R94: a CLAIM that no longer stands is lost without a new decision: its case is within the claim margin or was not CLAIMING. -/
theorem State.claimLost_of_expired (hd : (s.claim.sightings.map (fun e => e.caseId)).Nodup) (h : s.claimStands c lap = false) :
    s.claimLost c lap = s.claimExpired c lap := by
  unfold State.claimLost
  cases he : s.sighting c with
  | none => exact (State.claimExpired_of_none he).symm
  | some e =>
    by_cases hl : e.lap = lap.toNat
    · simp only [hl, ne_eq, not_true_eq_false, if_false]
      by_cases hst : e.state = .claiming
      · have hm : s.marginLeft e = false := by simpa [State.claimStands, he, hst, hl] using h
        rw [hst, State.claimExpired_of_lap hd he hl (g := fun e => { e with state := .free, queued := false }) (by simp [hst])]
        refine State.decideClaim_of_no_margin fun x hx => ?_
        rw [State.updSighting_sighting (g := fun e => { e with state := .free, queued := false }) (fun _ => rfl), he] at hx
        obtain rfl := Option.some.inj hx
        simpa [State.marginLeft] using hm
      · rw [State.claimExpired_of_lap hd he hl (g := fun e => { e with queued := false }) (by simp [hst])]
        cases hx : e.state with
        | claiming => exact absurd hx hst
        | _ => rfl
    · simp only [ne_eq, hl, not_false_eq_true, if_true]
      exact (State.claimExpired_of_other_lap hd he hl).symm

/-- R70, R93: an expired CLAIM at the head leaves the queue, and the contention goes on. -/
theorem State.contend_of_expired (hm : s.bus.mode = .full) (hi : s.bus.idle = true) (hn : s.bus.sendingFrame = none)
    (hq : s.bus.queue = f :: rest) (hp : f.payload = .claim c lap) (hd : (s.claim.sightings.map (fun e => e.caseId)).Nodup)
    (h : s.claimStands c lap = false) :
    s.contend = ((s.setBus { s.bus with queue := rest }).claimExpired c lap).contend := by
  have hw : ∀ g ∈ f :: rest, g.sending = false := hq ▸ Bus.sendingFrame_eq_none.mp hn
  have hf : f.sending = false := hw f List.mem_cons_self
  have hrest : ({ s.bus with queue := rest } : Bus).sendingFrame = none :=
    Bus.sendingFrame_eq_none.mpr fun g hg => hw g (List.mem_cons_of_mem f hg)
  have hlost : (s.setBus { s.bus with queue := rest }).claimLost c lap = (s.setBus { s.bus with queue := rest }).claimExpired c lap :=
    State.claimLost_of_expired hd h
  rw [State.contend, if_pos ⟨hm, hi, hn⟩, hq, List.length_cons, State.chooseFrame, Bus.firstWaiting_of_head hq hf]
  simp only [hp, h, Bool.false_eq_true, if_false, hq, removeFirst, hf, Bool.not_false, if_true, hlost]
  exact (if_pos ⟨hm, hi, hrest⟩).symm

/-! ### LINE_IDLE -/

/-- R70, R77: the line found idle. -/
def State.lineFound (s : State) : State := s.setBus { s.bus with idle := true, receiving := true, drive := .recessive }

/-- R70, R77: LINE_IDLE while nothing but the line waits: the contention, and once more the contention. -/
theorem exec_lineIdle (hm : s.bus.mode ≠ .off) (hn : s.bus.sendingFrame = none) (hr : s.planner.result = none)
    (hh : s.planner.holds.any = false) (hj : ∀ r, s.job.record = some r → r.phase = .collecting ∨ r.phase = .active) :
    exec .lineIdle s = .next s.lineFound.contend.contend := by
  have hplanner : s.lineFound.contend.planner = s.planner := by simp [State.lineFound]
  have hrecord : s.lineFound.contend.job.record = s.job.record := s.lineFound.contend_record
  have hexec : exec .lineIdle s = .next s.lineFound.contend.finish := by
    simp [exec, execLineIdle, goes, hm, hn, State.lineFound]
  rw [hexec, State.finish_eq_contend (by rw [hplanner, hr]) (by rw [hplanner, hh]) (by rwa [hrecord])]

end Sys2Proof.Machine

open Sys2Proof Sys2Proof.Machine

/-- Settles O24: by line mode, then by the frame at the head, which begins, or is a CLAIM that stands, or one that has expired. -/
theorem idleLineBeginsTheFirstFrame : Obligations.IdleLineBeginsTheFirstFrame := by
  intro s hr hh hn hj
  refine ⟨fun hm => ?_, fun f rest hm hq => ?_⟩
  · have hquiet : s.lineFound.contend = s.lineFound := State.contend_of_not_full (by simp [State.lineFound, hm])
    rw [exec_lineIdle (by simp [hm]) hn hr hh hj, hquiet, hquiet]
    rfl
  · intro begun
    have hon : s.bus.mode ≠ .off := by simp [hm]
    have hf : f.sending = false := Bus.sendingFrame_eq_none.mp hn f (hq ▸ List.mem_cons_self)
    have begins : (∀ c lap, f.payload = .claim c lap → s.lineFound.claimStands c lap = true) →
        exec .lineIdle s = .next { s with
          bus := begun
          job := { s.job with offer := s.job.offer.map (fun o => if f.payload = .adopt o.job then { o with bid := .sending } else o) } } := by
      intro hs
      have hbegun : s.lineFound.beginSending f = _ := State.beginSending_head hq hf
      rw [exec_lineIdle hon hn hr hh hj, State.contend_of_head (s := s.lineFound) hm rfl hn hq hs, hbegun, State.contend_of_busy rfl]
      rfl
    refine ⟨fun hno => begins fun c lap hp => absurd hp (hno c lap), fun c lap hp hd => ?_⟩
    intro stands expired
    have hstands : s.lineFound.claimStands c lap = true ↔ stands := State.claimStands_iff hd
    refine ⟨fun h => ?_, fun h => ?_⟩
    · have own : ∀ c' lap', f.payload = .claim c' lap' → s.lineFound.claimStands c' lap' = true := by
        intro c' lap' hp'
        obtain ⟨rfl, rfl⟩ := TxPayload.claim.inj (hp.symm.trans hp')
        exact hstands.mpr h
      rw [begins own]
      simp [hp]
    · have hrest : ({ s.bus with queue := rest } : Bus).sendingFrame = none :=
        Bus.sendingFrame_eq_none.mpr fun g hg => Bus.sendingFrame_eq_none.mp hn g (hq ▸ List.mem_cons_of_mem f hg)
      have hgone : s.lineFound.contend = _ := State.contend_of_expired hm rfl hn hq hp hd (Bool.eq_false_iff.mpr (mt hstands.mp h))
      rw [exec_lineIdle hon hn hr hh hj, hgone]
      exact (exec_lineIdle (s := { s with
        bus := { s.bus with queue := rest }, claim := { s.claim with sightings := s.claim.sightings.map expired } })
        hon hrest hr hh hj).symm
end

section
/-! SUPPORT. The ends of an own attempt (R71, R72, logs 19, 20, 21, 44, 49, 54): the frame back to WAITING or dropped, and its owner told. -/

namespace Sys2Proof.Machine

variable {s : State} {f : TxFrame} {c : CaseId} {lap : Byte} {e : Sighting}

/-! ### The line is busy at the end of an attempt (log 14) -/

/-- R69: a frame placed on a busy line waits. -/
theorem Bus.place_of_busy {b : Bus} (h : b.idle = false) (p : TxPayload) (urgency : Nat) :
    b.place p urgency = b.insert (TxFrame.fresh p urgency) := by
  rcases b.place_cases p urgency with hp | ⟨_, hi, _⟩
  · exact hp
  · simp [h] at hi

theorem Bus.queueStatus_idle {b : Bus} (h : b.idle = false) (fields : StatusFields) : (b.queueStatus fields).idle = false := by
  unfold Bus.queueStatus
  split
  · exact h
  · split
    · exact h
    · rw [Bus.place_of_busy (b := b.dropStatus) h]
      exact h

/-- R173: an event raised on a busy line leaves it busy. -/
theorem State.raise_idle (h : s.bus.idle = false) (k : EventKind) : (s.raise k).bus.idle = false := by
  have prompt : ∀ u : State, u.bus = s.bus → u.promptStatus.bus.idle = false := by
    intro u hu
    unfold State.promptStatus
    split
    · exact Bus.queueStatus_idle (hu ▸ h) _
    · exact hu ▸ h
  unfold State.raise
  split
  · exact h
  · cases s.classOf k with
    | off => exact h
    | count => exact h
    | deferred => exact h
    | prompt =>
      unfold State.raiseAs
      dsimp only
      split
      · exact h
      · exact prompt _ rfl

/-- R74, R75: after a frame seen the line is busy. -/
theorem State.frameSeen_idle (s : State) (vetoed good : Bool) (drive : LineDrive) : (s.frameSeen vetoed good drive).bus.idle = false := by
  unfold State.frameSeen State.muteTest
  (repeat' split)
  case isTrue.isTrue => rfl
  case isTrue.isFalse => rfl
  case isFalse.isTrue => exact State.raise_idle rfl _
  case isFalse.isFalse => rfl

/-! ### The ends of an attempt (R71, R72) -/

/-- R62: the attempt lost. -/
def State.attemptLost (s : State) : State := s.setBus { s.bus with idle := false, drive := .recessive }

/-- R64, R74: the attempt voided, entered with what the part drives for it (log 19). -/
def State.attemptSeen (s : State) (how : VoidCause) : State := s.frameSeen false (voidedInSlot how) (attemptAnswer how s.bus.muted)

/-- R71: the frame SENDING back at its place, WAITING, with a veto count. -/
def State.sendingReturned (s : State) (vetoes : Nat) : State :=
  s.setBus { s.bus with queue := s.bus.queue.map (fun g => if g.sending then { g with sending := false, vetoes := vetoes } else g) }

theorem attemptAnswer_eq (how : VoidCause) (muted : Bool) :
    attemptAnswer how muted = if muted = true ∨ how = .echoOnly then .recessive else if how = .veto then .echo else .brk := by
  cases muted <;> cases how <;> rfl

theorem exec_lostArbitration (h : s.bus.sendingFrame = some f) :
    exec .lostArbitration s = .next ((s.attemptLost.sendingReturned f.vetoes).tellReturned f.payload).finish := by
  simp [exec, execLostArbitration, goes, State.lostAttempt, h, State.backToWaiting, State.attemptLost, State.sendingReturned]

theorem exec_attemptVoided_returned (h : s.bus.sendingFrame = some f) (how : VoidCause) (hv : f.vetoes + 1 < 8) :
    exec (.attemptVoided how) s = .next (((s.attemptSeen how).sendingReturned (f.vetoes + 1)).tellReturned f.payload).finish := by
  simp only [exec, execAttemptVoided, goes, h, State.voidAttempt, if_neg (Nat.not_le.mpr hv)]
  rfl

theorem exec_attemptVoided_dropped (h : s.bus.sendingFrame = some f) (how : VoidCause) (hv : 8 ≤ f.vetoes + 1) :
    exec (.attemptVoided how) s =
      .next (((((s.attemptSeen how).takeSending).placeFreed f.payload).tellDropped f.payload).raise .busTrouble).finish := by
  simp only [exec, execAttemptVoided, goes, h, State.voidAttempt, if_pos hv]
  rfl

/-! ### The status place (R69, R71) -/

theorem State.pendingIn_of_none (h : s.bus.pendingStatus = none) : s.pendingIn = s := by
  simp [State.pendingIn, h]

/-- R71: on a busy line the CELL STATUS that waited takes the place as a new frame, WAITING. -/
theorem State.pendingIn_of_some {p : StatusFields} (hi : s.bus.idle = false) (h : s.bus.pendingStatus = some p) :
    s.pendingIn = s.setBus { (s.bus.dropStatus.insert { payload := .status p, urgency := 0, sending := false, vetoes := 0 }) with
      pendingStatus := none } := by
  simp only [State.pendingIn, h]
  rw [Bus.place_of_busy (b := s.bus.dropStatus) hi]
  rfl

/-! ### The owner told of a return (R71, R92, R97) -/

theorem State.tellReturned_of_report {p : TxPayload} (h : p.group = .reportGroup) : s.tellReturned p = s := by
  cases p with
  | claim | adopt | status => simp [TxPayload.group] at h
  | release | releaseJob | jobEnd | shortLine => rfl

/-- R73: with the frame SENDING returned, no withdrawal comes too late. -/
theorem State.sendingReturned_withdrawAnswer (s : State) (vetoes : Nat) (key : TxPayload → Bool) :
    (s.sendingReturned vetoes).bus.withdrawAnswer key ≠ .begun := by
  have hwait : ∀ g ∈ (s.sendingReturned vetoes).bus.queue, g.sending = false := by
    simp only [State.sendingReturned, State.setBus_bus, List.mem_map]
    rintro g ⟨x, -, rfl⟩
    split
    · rfl
    · rename_i hx
      exact Bool.eq_false_iff.mpr hx
  have hnone : (s.sendingReturned vetoes).bus.queue.any (fun g => key g.payload && g.sending) = false := by
    rw [List.any_eq_false]
    intro g hg
    simp [hwait g hg]
  unfold Bus.withdrawAnswer
  split
  · decide
  · simp [hnone]

/-- R92: an own CLAIM asked back that has not begun leaves the queue, and the entry's flag is cleared. -/
theorem State.withdrawClaim_of_not_begun (h : s.bus.withdrawAnswer (isClaimOf c) ≠ .begun) :
    s.withdrawClaim c = (s.setBus (s.bus.withdraw (isClaimOf c))).updSighting c (fun e => { e with queued := false }) := if_neg h

theorem State.updSighting_updSighting {g k : Sighting → Sighting} (hg : ∀ e, (g e).caseId = e.caseId) :
    (s.updSighting c g).updSighting c k = s.updSighting c (fun e => k (g e)) := by
  simp only [State.updSighting, State.setClaim, List.map_map]
  congr 2
  refine List.map_congr_left fun e _ => ?_
  by_cases hc : e.caseId = c <;> simp [hc, hg]

theorem State.claimReturned_of_none (h : s.sighting c = none) : s.claimReturned c lap = s := by
  simp [State.claimReturned, h]

theorem State.claimReturned_of_other_lap (h : s.sighting c = some e) (hl : e.lap ≠ lap.toNat) : s.claimReturned c lap = s := by
  simp [State.claimReturned, h, hl]

theorem State.claimReturned_of_inTransit (h : s.sighting c = some e) (hs : e.state = .ours ∨ e.state = .diverting) :
    s.claimReturned c lap = s := by
  rcases hs with hs | hs <;> simp [State.claimReturned, h, hs]

/-- R71: a CLAIM for a CLAIMING entry goes on waiting in an ACTIVE job without lockout. -/
theorem State.claimReturned_of_owned (h : s.sighting c = some e) (hs : e.state = .claiming)
    (ho : s.phase = some .active ∧ s.start.lockout = false) : s.claimReturned c lap = s := by
  simp [State.claimReturned, h, hs, State.active, ho]

/-- R92: a CLAIM that returns for a case that is THEIRS, or FREE since, is asked back (log 49). -/
theorem State.claimReturned_of_second (h : s.sighting c = some e) (hl : e.lap = lap.toNat)
    (hs : (∃ o, e.state = .theirs o) ∨ e.state = .free) (hb : s.bus.withdrawAnswer (isClaimOf c) ≠ .begun) :
    s.claimReturned c lap = (s.setBus (s.bus.withdraw (isClaimOf c))).updSighting c (fun e => { e with queued := false }) :=
  (State.claimReturned_second h hl hs).trans (State.withdrawClaim_of_not_begun hb)

/-- R97: a CLAIM that returns after the close or the lockout is asked back, and its entry is FREE (log 21). -/
theorem State.claimReturned_of_not_owned (h : s.sighting c = some e) (hl : e.lap = lap.toNat) (hs : e.state = .claiming)
    (ho : ¬ (s.phase = some .active ∧ s.start.lockout = false)) (hb : s.bus.withdrawAnswer (isClaimOf c) ≠ .begun) :
    s.claimReturned c lap =
      (s.setBus (s.bus.withdraw (isClaimOf c))).updSighting c (fun e => { e with state := .free, queued := false }) := by
  have hno : (s.active && !s.start.lockout) = false := by
    simpa [State.active] using ho
  have hfreed : s.claimReturned c lap = (s.withdrawClaim c).updSighting c (fun e => { e with state := .free, queued := false }) := by
    simp [State.claimReturned, h, hl, hs, hno]
  rw [hfreed, State.withdrawClaim_of_not_begun hb]
  exact State.updSighting_updSighting fun _ => rfl

/-! ### The owner told of a drop (R72, R94) -/

theorem State.tellDropped_of_report {p : TxPayload} (h : p.group = .reportGroup) : s.tellDropped p = s := by
  cases p with
  | claim | adopt | status => simp [TxPayload.group] at h
  | release | releaseJob | jobEnd | shortLine => rfl

theorem State.placeFreed_of_report {p : TxPayload} (h : p.group = .reportGroup) : s.placeFreed p = s.offerReports := by
  simp [State.placeFreed, h]

/-- R4, R72: a dropped ADOPT empties the offer record of its job id, and no other (log 54). -/
theorem State.tellDropped_adopt (j : JobId) :
    s.tellDropped (.adopt j) = s.setJob { s.job with offer := s.job.offer.filter (fun o => decide (o.job ≠ j)) } := by
  have hkeep : ∀ o, o = s.job.offer → s = s.setJob { s.job with offer := o } := by
    rintro _ rfl
    rfl
  unfold State.tellDropped
  cases ho : s.job.offer with
  | none => exact hkeep _ ho.symm
  | some o =>
    by_cases hj : o.job = j
    · simp [State.clearOffer, hj, Option.filter]
    · simpa [hj, Option.filter] using hkeep _ ho.symm

theorem State.claimLost_of_none (h : s.sighting c = none) : s.claimLost c lap = s := by
  simp [State.claimLost, h]

theorem State.claimLost_of_other_lap (h : s.sighting c = some e) (hl : e.lap ≠ lap.toNat) : s.claimLost c lap = s := by
  simp [State.claimLost, h, hl]

/-- R94: the CLAIM of a CLAIMING entry is lost: the case is FREE and is decided again. -/
theorem State.claimLost_of_claiming (h : s.sighting c = some e) (hl : e.lap = lap.toNat) (hs : e.state = .claiming) :
    s.claimLost c lap = (s.updSighting c (fun e => { e with state := .free, queued := false })).decideClaim c := by
  simp [State.claimLost, h, hl, hs]

theorem State.claimLost_of_not_claiming (h : s.sighting c = some e) (hl : e.lap = lap.toNat) (hs : e.state ≠ .claiming) :
    s.claimLost c lap = s.updSighting c (fun e => { e with queued := false }) := by
  unfold State.claimLost
  cases hx : e.state with
  | claiming => exact absurd hx hs
  | _ => simp [h, hl, hx]

end Sys2Proof.Machine

open Sys2Proof Sys2Proof.Machine

/-- Settles O25: each kind of frame returned, then each kind dropped, by what its owner is told. -/
theorem failedAttemptsReturnOrDrop : Obligations.FailedAttemptsReturnOrDrop := by
  intro s f hf lost voided entries renewed
  have hvoided : ∀ how, s.attemptSeen how = voided how := fun how => by
    simp only [State.attemptSeen, attemptAnswer_eq, voidedInSlot, voided]
  have hkept : ∀ how, (voided how).claim = s.claim ∧ (voided how).job = s.job ∧ (voided how).start = s.start := fun how => by
    simp [voided]
  refine ⟨fun c u vetoes hend => ?_, fun how hv => ?_⟩
  · have hends : exec c s = .next ((u.sendingReturned vetoes).tellReturned f.payload).finish ∧ u.bus.idle = false ∧
        u.claim = s.claim ∧ u.job = s.job ∧ u.start = s.start := by
      rcases hend with ⟨rfl, rfl, rfl⟩ | ⟨how, rfl, rfl, rfl, hv⟩
      · exact ⟨exec_lostArbitration hf, rfl, rfl, rfl, rfl⟩
      · exact ⟨hvoided how ▸ exec_attemptVoided_returned hf how hv, State.frameSeen_idle .., hkept how⟩
    obtain ⟨hexec, hidle, hclaim, hjob, hstart⟩ := hends
    intro back withdrawn run
    have told : ∀ t, back.tellReturned f.payload = t → run = .next t.finish := fun t ht => ht ▸ hexec
    refine ⟨fun hg => ?_, fun j hp => ?_, fun fields hp => ⟨fun hnone => ?_, fun p hsome => ?_⟩, fun k lap hp => ?_⟩
    · exact told _ (State.tellReturned_of_report hg)
    · exact told _ (by rw [hp]; rfl)
    · exact told _ (by rw [hp]; exact State.pendingIn_of_none hnone)
    · exact told _ (by rw [hp]; exact State.pendingIn_of_some hidle hsome)
    · have claimTold : ∀ t, back.claimReturned k lap = t → run = .next t.finish := fun t ht => told t (by rw [hp]; exact ht)
      have hsight : s.sighting k = back.sighting k := by simp only [State.sighting, back, hclaim]
      have hasked : back.bus.withdrawAnswer (isClaimOf k) ≠ .begun := u.sendingReturned_withdrawAnswer vetoes _
      rw [hsight]
      refine ⟨fun hnone => claimTold _ (State.claimReturned_of_none hnone), fun e he => ?_⟩
      intro owned
      have howned : owned ↔ back.phase = some .active ∧ back.start.lockout = false := by
        simp only [owned, State.phase, back, hjob, hstart]
      refine ⟨fun hl => ?_, fun hl hst => ?_, fun hl hst ho => ?_, fun hl hst ho => ?_, fun hst => ?_⟩
      · exact claimTold _ (State.claimReturned_of_other_lap he hl)
      · exact claimTold _ (State.claimReturned_of_second he hl hst hasked)
      · exact claimTold _ (State.claimReturned_of_owned he hst (howned.mp ho))
      · exact claimTold _ (State.claimReturned_of_not_owned he hl hst (mt howned.mpr ho) hasked)
      · exact claimTold _ (State.claimReturned_of_inTransit he hst)
  · intro u gone dropped
    have told : ∀ t, (gone.placeFreed f.payload).tellDropped f.payload = t → dropped t := by
      rintro t rfl
      have hexec := exec_attemptVoided_dropped hf how hv
      rwa [hvoided how] at hexec
    have hidle : gone.bus.idle = false := State.frameSeen_idle ..
    have hclaim : gone.claim = s.claim := (hkept how).1
    refine ⟨fun hg => ?_, fun j hp => ?_, fun fields hp => ⟨fun hnone => ?_, fun p hsome => ?_⟩, fun k lap hp => ?_⟩
    · exact told _ (by rw [State.placeFreed_of_report hg, State.tellDropped_of_report hg])
    · exact told _ (by rw [hp]; exact State.tellDropped_adopt j)
    · exact told _ (by rw [hp]; exact State.pendingIn_of_none hnone)
    · exact told _ (by rw [hp]; exact State.pendingIn_of_some hidle hsome)
    · have claimTold : ∀ t, gone.claimLost k lap = t → dropped t := fun t ht => told t (by rw [hp]; exact ht)
      have hsight : s.sighting k = gone.sighting k := by simp only [State.sighting, hclaim]
      rw [hsight]
      refine ⟨fun hnone => claimTold _ (State.claimLost_of_none hnone), fun e he => ⟨fun hl => ?_, fun hl hst => ?_, fun hl hst => ?_⟩⟩
      · exact claimTold _ (State.claimLost_of_other_lap he hl)
      · exact claimTold _ (State.claimLost_of_claiming he hl hst)
      · exact claimTold _ (State.claimLost_of_not_claiming he hl hst)
end

section
/-! SUPPORT. A frame heard (R65, R67): the state in which the blocks take it, and what of the transmit queue it leaves as it was. -/

namespace Sys2Proof.Machine

/-! ### The state in which a frame is taken (R65, R67) -/

section
variable {s : State}

theorem State.hearOther_of_hears (h : s.bus.hears = true) {sender : Station} (h0 : sender ≠ 0) (h31 : sender ≠ 31)
    (k : State → State) : s.hearOther sender k = (k (Safety.heardFrom s)).finish := by
  rw [State.hearOther, if_pos h]
  exact congrArg State.finish (if_neg (not_or.mpr ⟨h0, h31⟩))

theorem State.hearOwn_of_sending {f : TxFrame} {p : TxPayload} (h : s.bus.sendingFrame = some f) (hp : f.payload = p)
    (k : State → State) : s.hearOwn p k = (k (Safety.heardOwn s p)).finish := by
  simp [State.hearOwn, h, hp, Safety.heardOwn]

end

@[simp] theorem heardFrom_frame (s : State) :
    (Safety.heardFrom s).start = s.start ∧ (Safety.heardFrom s).claim = s.claim ∧ (Safety.heardFrom s).job = s.job ∧
      (Safety.heardFrom s).map = s.map ∧ (Safety.heardFrom s).planner = s.planner ∧ (Safety.heardFrom s).travel = s.travel ∧
      (Safety.heardFrom s).divert = s.divert ∧ (Safety.heardFrom s).staging = s.staging ∧ (Safety.heardFrom s).arm = s.arm ∧
      (Safety.heardFrom s).plate = s.plate ∧ (Safety.heardFrom s).pins = s.pins ∧ (Safety.heardFrom s).pending = s.pending :=
  s.frameSeen_frame false true .recessive

/-- R65, R71: no block waits for the place of an own CLAIM, so its hearing leaves all but the bus and the events. -/
@[simp] theorem heardOwn_claim_frame (s : State) (c : CaseId) (lap : Byte) :
    (Safety.heardOwn s (.claim c lap)).start = s.start ∧ (Safety.heardOwn s (.claim c lap)).claim = s.claim ∧
      (Safety.heardOwn s (.claim c lap)).job = s.job ∧ (Safety.heardOwn s (.claim c lap)).map = s.map ∧
      (Safety.heardOwn s (.claim c lap)).planner = s.planner ∧ (Safety.heardOwn s (.claim c lap)).travel = s.travel ∧
      (Safety.heardOwn s (.claim c lap)).divert = s.divert ∧ (Safety.heardOwn s (.claim c lap)).staging = s.staging ∧
      (Safety.heardOwn s (.claim c lap)).arm = s.arm ∧ (Safety.heardOwn s (.claim c lap)).plate = s.plate ∧
      (Safety.heardOwn s (.claim c lap)).pins = s.pins ∧ (Safety.heardOwn s (.claim c lap)).pending = s.pending :=
  s.takeSending.frameSeen_frame false true .recessive

/-! ### Ordered lists -/

/-- The list parts where an element is put in: none before the place goes after it, and the next one does. -/
theorem insertBy_split {α : Type} (before : α → α → Bool) (x : α) (xs : List α) :
    ∃ l r, xs = l ++ r ∧ insertBy before x xs = l ++ x :: r ∧ (∀ y ∈ l, before x y = false) ∧
      ∀ y, r.head? = some y → before x y = true := by
  induction xs with
  | nil => exact ⟨[], [], rfl, rfl, by simp, by simp⟩
  | cons y ys ih =>
    by_cases h : before x y = true
    · exact ⟨[], y :: ys, rfl, by simp [insertBy, h], by simp, by simpa using h⟩
    · obtain ⟨l, r, hsplit, hins, hl, hr⟩ := ih
      refine ⟨y :: l, r, by rw [hsplit, List.cons_append], by simp [insertBy, h, hins], ?_, hr⟩
      exact List.forall_mem_cons.mpr ⟨Bool.eq_false_iff.mpr h, hl⟩

theorem filter_insertBy {α : Type} {q : α → Bool} (before : α → α → Bool) {x : α} (hx : q x = false) (xs : List α) :
    (insertBy before x xs).filter q = xs.filter q := by
  obtain ⟨l, r, hsplit, hins, -, -⟩ := insertBy_split before x xs
  rw [hins, hsplit, List.filter_append, List.filter_append, List.filter_cons_of_neg (by simp [hx])]

theorem filter_removeFirst {α : Type} {q p : α → Bool} {xs : List α} (h : ∀ x, xs.find? p = some x → q x = false) :
    (removeFirst p xs).filter q = xs.filter q := by
  induction xs with
  | nil => rfl
  | cons x xs ih =>
    by_cases hp : p x = true
    · simp [removeFirst, hp, h x (by simp [hp])]
    · simp [removeFirst, hp, List.filter_cons, ih fun y hy => h y (by simpa [hp] using hy)]

/-! ### The frames that a new CELL STATUS leaves (R69, R173) -/

/-- R69: a frame placed is the queue's only new one. -/
theorem Bus.place_filter {q : TxFrame → Bool} {p : TxPayload} (hq : ∀ f : TxFrame, f.payload = p → q f = false) (b : Bus)
    (urgency : Nat) : (b.place p urgency).queue.filter q = b.queue.filter q := by
  rcases b.place_cases p urgency with h | ⟨-, -, -, h⟩ <;> rw [h] <;> exact filter_insertBy _ (hq _ rfl) _

theorem Bus.place_mode (b : Bus) (p : TxPayload) (urgency : Nat) : (b.place p urgency).mode = b.mode := by
  rcases b.place_cases p urgency with h | ⟨-, -, -, h⟩ <;> rw [h] <;> rfl

theorem Bus.mem_place (b : Bus) (p : TxPayload) (urgency : Nat) : ∃ f ∈ (b.place p urgency).queue, f.payload = p := by
  rcases b.place_cases p urgency with h | ⟨-, -, -, h⟩ <;> rw [h] <;>
    exact ⟨_, (insertBy_perm _ _ _).mem_iff.mpr List.mem_cons_self, rfl⟩

/-- R168, R173: an event raised leaves the bus alone, or asks for a CELL STATUS. -/
theorem State.raise_bus_cases (s : State) (k : EventKind) :
    (s.raise k).bus = s.bus ∨ ∃ fields, (s.raise k).bus = s.bus.queueStatus fields := by
  have prompted : ∀ u : State, u.bus = s.bus →
      u.promptStatus.bus = s.bus ∨ ∃ fields, u.promptStatus.bus = s.bus.queueStatus fields := by
    intro u hu
    unfold State.promptStatus
    split
    · exact .inr ⟨u.statusFields, by rw [← hu]; rfl⟩
    · exact .inl hu
  unfold State.raise
  split
  · exact .inl rfl
  · cases s.classOf k with
    | off | count | deferred => exact .inl rfl
    | prompt =>
      unfold State.raiseAs
      dsimp only
      split
      · exact .inl rfl
      · exact prompted _ rfl

section
variable {q : TxFrame → Bool} (hq : ∀ f : TxFrame, f.payload.group = .statusPlace → q f = false)
include hq

theorem Bus.queueStatus_others (b : Bus) (fields : StatusFields) :
    (b.queueStatus fields).mode = b.mode ∧ (b.queueStatus fields).queue.filter q = b.queue.filter q := by
  have hdrop : b.dropStatus.queue.filter q = b.queue.filter q := by
    simp only [Bus.dropStatus, List.filter_filter]
    refine List.filter_congr fun f _ => ?_
    by_cases hf : f.payload.group = .statusPlace <;> simp [hf, hq f]
  unfold Bus.queueStatus
  (repeat' split)
  · exact ⟨rfl, rfl⟩
  · exact ⟨rfl, rfl⟩
  · exact ⟨Bus.place_mode .., (Bus.place_filter (fun f hf => hq f (by rw [hf]; rfl)) _ _).trans hdrop⟩

theorem State.raise_others (s : State) (k : EventKind) :
    (s.raise k).bus.mode = s.bus.mode ∧ (s.raise k).bus.queue.filter q = s.bus.queue.filter q := by
  rcases s.raise_bus_cases k with h | ⟨fields, h⟩ <;> rw [h]
  · exact ⟨rfl, rfl⟩
  · exact Bus.queueStatus_others hq ..

/-- R74, R75: a frame seen may mute the part, which may ask for a CELL STATUS; the other frames of the queue stay. -/
theorem State.frameSeen_others (s : State) (vetoed good : Bool) (drive : LineDrive) :
    (s.frameSeen vetoed good drive).bus.mode = s.bus.mode ∧
      (s.frameSeen vetoed good drive).bus.queue.filter q = s.bus.queue.filter q := by
  unfold State.frameSeen State.muteTest
  (repeat' split)
  case isFalse.isTrue => exact State.raise_others hq _ _
  all_goals exact ⟨rfl, rfl⟩

end

end Sys2Proof.Machine
end

section
/-! SUPPORT. CASE SIGHT (R80 to R84): the figures taken in, the old entry settled, and the new one's place in arrival order. -/

namespace Sys2Proof.Machine

variable {s : State} {e old : Sighting} {c : CaseId}

/-! ### What a CASE SIGHT gives (R80) -/

theorem gateFigure_toNat (lo hi : Nat) (x : BitVec 16) :
    gateFigure lo hi x.toNat = if x = 0 then 0 else max lo (min hi x.toNat) := by
  have hzero : x.toNat = 0 ↔ x = 0 := BitVec.toNat_eq (x := x) (y := 0).symm
  simp only [gateFigure, clamp, hzero]

theorem exec_caseSight (h : s.bus.hears = true) {sender : Station} (h0 : sender ≠ 0) (h31 : sender ≠ 31) (c : CaseId) (p : ProductCode)
    (m l w t : BitVec 16) (lap : Byte) (age : BitVec 16) :
    exec (.caseSight sender c p m l w t lap age) s =
      .next ((Safety.heardFrom s).takeSight ((Safety.heardFrom s).sightingOf c p m l w t lap age)).finish :=
  congrArg goes (State.hearOther_of_hears h h0 h31 _)

/-! ### The old entry of the case (R84) -/

theorem State.caseId_of_sighting (h : s.sighting c = some e) : e.caseId = c := by
  simpa using List.find?_some h

/-- R84: the state once an old entry of the case, if there is one, is settled. -/
def State.resighted (s : State) (c : CaseId) : State :=
  match s.sighting c with
  | some old => s.settleOld old
  | none => s

theorem State.resighted_of_none (h : s.sighting c = none) : s.resighted c = s := by
  simp only [State.resighted, h]

theorem State.resighted_of_idle (h : s.sighting c = some old) (hs : old.state = .free ∨ ∃ o, old.state = .theirs o) :
    s.resighted c = s.dropSighting c := by
  rcases hs with hs | ⟨o, hs⟩ <;> simp only [State.resighted, h, State.settleOld, hs, State.caseId_of_sighting h]

theorem State.resighted_of_claiming (h : s.sighting c = some old) (hs : old.state = .claiming) :
    s.resighted c = (s.setBus (s.bus.withdraw (isClaimOf c))).dropSighting c := by
  simp only [State.resighted, h, State.settleOld, hs, State.caseId_of_sighting h]

/-- R84: a case in transit that is sighted again has missed its divert. -/
theorem State.resighted_of_inTransit (h : s.sighting c = some old) (hs : old.state = .ours ∨ old.state = .diverting) :
    s.resighted c = (((s.dropDivert c).decreaseClaimed old.line).raise .divertMissed).dropSighting c := by
  rcases hs with hs | hs <;> simp only [State.resighted, h, State.settleOld, hs, State.caseId_of_sighting h]

/-! ### The tests of a sighting (R82) -/

theorem State.takeSight_of_held (h : s.holdsCase e.caseId = true) : s.takeSight e = s.raise .idClash := if_pos h

section
variable (h : s.holdsCase e.caseId = false)
include h

theorem State.takeSight_of_not_held :
    s.takeSight e = if e.product ∈ (s.resighted e.caseId).claim.interest then
      if (s.resighted e.caseId).passedBy e then s.resighted e.caseId else (s.resighted e.caseId).recordSighting e
    else s.resighted e.caseId := if_neg (by simp [h])

theorem State.takeSight_of_unwanted (hp : e.product ∉ (s.resighted e.caseId).claim.interest) : s.takeSight e = s.resighted e.caseId := by
  rw [State.takeSight_of_not_held h, if_neg hp]

theorem State.takeSight_of_passed (hb : (s.resighted e.caseId).passedBy e = true) : s.takeSight e = s.resighted e.caseId := by
  rw [State.takeSight_of_not_held h, if_pos hb, ite_self]

theorem State.takeSight_of_wanted (hp : e.product ∈ (s.resighted e.caseId).claim.interest)
    (hb : (s.resighted e.caseId).passedBy e = false) : s.takeSight e = (s.resighted e.caseId).recordSighting e := by
  rw [State.takeSight_of_not_held h, if_pos hp, if_neg (by simp [hb])]

end

/-! ### The place of a new entry (R81, R83) -/

theorem State.recordSighting_of_room (h : s.claim.sightings.length < 16) :
    s.recordSighting e = (s.placeSighting e).decideClaim e.caseId := if_pos h

theorem State.recordSighting_of_full (h : 16 ≤ s.claim.sightings.length) (hno : ∀ x ∈ s.claim.sightings, x.state.isTheirs = false) :
    s.recordSighting e = s.raise .sightingDropped := by
  have hnone : s.claim.sightings.find? (fun x => x.state.isTheirs) = none := List.find?_eq_none.mpr fun x hx => by simp [hno x hx]
  simp only [State.recordSighting, if_neg (Nat.not_lt.mpr h), hnone]

theorem State.recordSighting_of_theirs (h : 16 ≤ s.claim.sightings.length) {x : Sighting}
    (hx : s.claim.sightings.find? (fun x => x.state.isTheirs) = some x) :
    s.recordSighting e = ((s.dropSighting x.caseId).placeSighting e).decideClaim e.caseId := by
  simp only [State.recordSighting, if_neg (Nat.not_lt.mpr h), hx]

/-- R81: a new entry stands after those that arrive no later, and before the next. -/
theorem State.placeSighting_split (s : State) (e : Sighting) :
    ∃ before after, s.claim.sightings = before ++ after ∧
      (∀ x ∈ before, travelDiff x.arrival s.travel.count ≤ travelDiff e.arrival s.travel.count) ∧
      (∀ x, after.head? = some x → travelDiff e.arrival s.travel.count < travelDiff x.arrival s.travel.count) ∧
      s.placeSighting e = s.setClaim { s.claim with sightings := before ++ e :: after } := by
  obtain ⟨before, after, hsplit, hins, hbefore, hafter⟩ := insertBy_split
    (fun x y : Sighting => decide (travelDiff x.arrival s.travel.count < travelDiff y.arrival s.travel.count)) e s.claim.sightings
  refine ⟨before, after, hsplit, ?_, ?_, by rw [State.placeSighting, hins]⟩
  · exact fun x hx => Int.not_lt.mp (of_decide_eq_false (hbefore x hx))
  · exact fun x hx => of_decide_eq_true (hafter x hx)

/-- R87: nothing is claimed while the belt is not LOCKED. -/
theorem State.decideClaim_of_not_locked (h : s.travel.lock ≠ .locked) : s.decideClaim c = s := by
  have hno : ∀ e l, s.claimHolds e l = false := fun e l => by simp [State.claimHolds, h]
  unfold State.decideClaim
  split
  · rfl
  · split <;> simp [hno]

end Sys2Proof.Machine

open Sys2Proof Sys2Proof.Machine

/-- Settles O38: the tests of R82 in their order, with the old entry settled by its state and the new one put in arrival order. -/
theorem caseSightIsRecordedInOrder : Obligations.CaseSightIsRecordedInOrder := by
  intro sender c p m l w h lap age s hh h0 h31 u run figure e without settled placed
  have hentry : u.sightingOf c p m l w h lap age = e := by
    simp only [State.sightingOf, gateFigure_toNat, BitVec.ofNat_toNat]
    rfl
  have hrun : run = .next (u.takeSight e).finish := hentry ▸ exec_caseSight hh h0 h31 c p m l w h lap age
  have hsettled : u.resighted c = settled := by
    simp only [settled]
    cases hold : u.sighting c with
    | none => exact State.resighted_of_none hold
    | some old =>
      cases hs : old.state <;> simp only [hs]
      case free => exact State.resighted_of_idle hold (.inl hs)
      case theirs o => exact State.resighted_of_idle hold (.inr ⟨o, hs⟩)
      case claiming => exact State.resighted_of_claiming hold hs
      case ours => exact State.resighted_of_inTransit hold (.inl hs)
      case diverting => exact State.resighted_of_inTransit hold (.inr hs)
  have told : ∀ t, u.takeSight e = t → run = .next t.finish := fun t ht => ht ▸ hrun
  have recorded : ∀ v : State, u.takeSight e = (v.placeSighting e).decideClaim c → placed v := by
    intro v hv
    obtain ⟨before, after, hsplit, hbefore, hafter, hplace⟩ := v.placeSighting_split e
    exact ⟨before, after, hsplit, hbefore, hafter, told _ (by rw [hv, hplace]; rfl)⟩
  rw [← hsettled]
  refine ⟨fun hc => ?_, fun hc hp => ?_, fun hc hp hb => ?_, fun hc hp hb hn => ?_, fun hc hp hb hn hno => ?_,
    fun x hc hp hb hn hx => ?_, fun v => State.decideClaim_of_not_locked⟩
  · exact told _ (State.takeSight_of_held hc)
  · exact told _ (State.takeSight_of_unwanted hc hp)
  · exact told _ (State.takeSight_of_passed hc hb)
  · exact recorded _ ((State.takeSight_of_wanted hc hp hb).trans (State.recordSighting_of_room hn))
  · exact told _ ((State.takeSight_of_wanted hc hp hb).trans (State.recordSighting_of_full hn hno))
  · exact recorded _ ((State.takeSight_of_wanted hc hp hb).trans (State.recordSighting_of_theirs hn hx))
end

section
/-! SUPPORT. The own CLAIM heard (R90 to R92, R95): the RELEASE of a case not held, and a case won, counted and scheduled. -/

namespace Sys2Proof.Machine

variable {s : State} {e : Sighting} {c : CaseId} {n : Nat} {l : LineRec} {d : DivertEntry}

theorem exec_claim_own {f : TxFrame} {lap : Byte} (h : s.bus.sendingFrame = some f) (hp : f.payload = .claim c lap) :
    exec (.claim .own c lap) s = .next ((Safety.heardOwn s (.claim c lap)).ownClaim c (min 15 lap.toNat)).finish :=
  congrArg goes (State.hearOwn_of_sending h hp (fun s => s.ownClaim c (min 15 lap.toNat)))

/-! ### A RELEASE for want of a case (R90, R95) -/

/-- R65, R71: the hearing of an own CLAIM leaves the line mode and the report group. -/
theorem heardOwn_claim_reports {f : TxFrame} {lap : Byte} (h : s.bus.sendingFrame = some f) (hp : f.payload = .claim c lap) :
    (Safety.heardOwn s (.claim c lap)).bus.mode = s.bus.mode ∧
      (Safety.heardOwn s (.claim c lap)).bus.inGroup .reportGroup = s.bus.inGroup .reportGroup := by
  have hstatus : ∀ g : TxFrame, g.payload.group = .statusPlace → decide (g.payload.group = .reportGroup) = false := by
    intro g hg
    simp [hg]
  obtain ⟨hmode, hqueue⟩ := State.frameSeen_others hstatus s.takeSending false true .recessive
  have htaken : s.takeSending.bus.queue.filter (fun g => decide (g.payload.group = .reportGroup)) =
      s.bus.queue.filter (fun g => decide (g.payload.group = .reportGroup)) := by
    refine filter_removeFirst fun g hg => ?_
    obtain rfl := Option.some.inj (hg.symm.trans h)
    simp [hp, TxPayload.group]
  exact ⟨hmode, congrArg List.length (hqueue.trans htaken)⟩

/-- R95: with no backlog and a report place free, a released case has its RELEASE in the queue. -/
theorem State.releaseCase_queues (r : ReleaseReason) (hm : s.bus.mode = .full) (hb : s.claim.backlog = [])
    (hg : s.bus.inGroup .reportGroup < 7) : ∃ g ∈ (s.releaseCase c r).bus.queue, g.payload = .release c r.code := by
  have htry : s.bus.tryQueue (.release c r.code) 0 = some (s.bus.place (.release c r.code) 0) := Bus.tryQueue_eq_some.mpr ⟨hm, hg, rfl⟩
  have hrelease : s.releaseCase c r = s.setBus (s.bus.place (.release c r.code) 0) := by
    simp [State.releaseCase, hm, hb, htry]
  rw [hrelease]
  exact Bus.mem_place ..

theorem State.releaseCase_sightings (s : State) (c : CaseId) (r : ReleaseReason) :
    (s.releaseCase c r).claim.sightings = s.claim.sightings := by
  unfold State.releaseCase
  (repeat' split) <;> rfl

theorem State.ownClaim_of_none (h : s.sighting c = none) (lap : Nat) : s.ownClaim c lap = s.releaseCase c .missed := by
  simp only [State.ownClaim, h]

theorem State.ownClaim_of_other_lap {lap : Nat} (h : s.sighting c = some e) (hl : e.lap ≠ lap) : s.ownClaim c lap = s := by
  simp only [State.ownClaim, h, if_pos hl]

theorem State.ownClaim_of_claiming (h : s.sighting c = some e) (hs : e.state = .claiming) : s.ownClaim c e.lap = s.winCase e := by
  simp only [State.ownClaim, h, hs, ne_eq, not_true_eq_false, if_false]

/-! ### The line of a won case (R10, R91) -/

theorem LineRec.canTake_eq_true : l.canTake = true ↔ l.status = .lineOpen ∧ 0 < l.ordered - l.placed - l.claimed := decide_eq_true_iff

/-- R10: the candidate line is the lowest-numbered of the product with room. -/
theorem State.candidateLine_of_lowest {p : ProductCode} (h : s.lineAt n = some l) (hp : l.product = p) (ht : l.canTake = true)
    (hlow : ∀ i l', i < n → s.lineAt i = some l' → l'.product = p → l'.canTake = false) : s.candidateLine p = some (n, l) := by
  have hread : ∀ i (hi : i < s.job.lines.length), s.lineAt i = s.job.lines[i] := fun i hi => by simp [State.lineAt, hi]
  have hn : n < s.job.lines.length := Nat.lt_of_not_le fun hge => by
    simp [State.lineAt, hge] at h
  have hfind : s.job.lines.zipIdx.find? (fun q => (q.1.map (fun l => (q.2, l))).any
      (fun nl => decide (nl.2.product = p) && nl.2.canTake)) = some (some l, n) := by
    rw [List.find?_eq_some_iff_getElem]
    refine ⟨by simp [hp, ht], n, by simpa using hn, by simp [← hread n hn, h], fun j hj => ?_⟩
    have hjn : j < s.job.lines.length := Nat.lt_trans hj hn
    cases hl : s.lineAt j with
    | none => simp [← hread j hjn, hl]
    | some l' => simpa [← hread j hjn, hl] using Decidable.imp_iff_not_or.mp (hlow j l' hj hl)
  rw [State.candidateLine, State.heldLines, List.find?_filterMap, hfind]
  rfl

theorem State.lineAt_updLine (s : State) (n : Nat) (g : LineRec → LineRec) (i : Nat) :
    (s.updLine n g).lineAt i = if i = n then (s.lineAt i).map g else s.lineAt i := by
  simp only [State.lineAt, State.updLine, State.setJob_job, List.getD_eq_getElem?_getD, List.getElem?_modify]
  by_cases hi : n = i
  · cases s.job.lines[i]? <;> simp [hi]
  · simp [hi, Ne.symm hi]

/-! ### The entry of a won case (R86, R91) -/

theorem State.sighting_updSighting {g : Sighting → Sighting} (hg : ∀ x, x.caseId = c → (g x).caseId = c) (k : CaseId) :
    (s.updSighting c g).sighting k = if k = c then (s.sighting k).map g else s.sighting k := by
  have hkeep : ∀ x : Sighting, (if x.caseId = c then g x else x).caseId = x.caseId := by
    intro x
    split
    · rename_i hx
      rw [hg x hx, hx]
    · rfl
  simp only [State.sighting, State.updSighting, State.setClaim_claim, List.find?_map, Function.comp_def, hkeep]
  split
  · rename_i hk
    exact Option.map_congr fun x hx => if_pos (hk ▸ State.caseId_of_sighting hx)
  · rename_i hk
    refine (Option.map_congr fun x hx => if_neg fun hx' => hk ?_).trans Option.map_id'
    exact (State.caseId_of_sighting hx).symm.trans hx'

/-- R86: only FREE entries are decided, so a case that is not FREE keeps its entry whatever case is decided. -/
theorem State.decideClaim_sighting (h : s.sighting c = some e) (hs : e.state ≠ .free) (k : CaseId) :
    (s.decideClaim k).sighting c = some e := by
  unfold State.decideClaim
  split
  · exact h
  · rename_i x hx
    split
    · rename_i hfree _
      have hne : c ≠ k := by
        rintro rfl
        exact hs (Option.some.inj (h.symm.trans hx) ▸ hfree)
      (repeat' split)
      · rw [State.sighting_updSighting (g := fun x => { x with state := .claiming, queued := true }) (fun _ hx => hx), if_neg hne]
        exact h
      · exact h
      · exact h
    · exact h

theorem State.countsChanged_sighting (h : s.sighting c = some e) (hs : e.state ≠ .free) : s.countsChanged.sighting c = some e := by
  have hfold : ∀ (ks : List CaseId) (u : State), u.sighting c = some e → (ks.foldl State.decideClaim u).sighting c = some e := by
    intro ks
    induction ks with
    | nil => exact fun u hu => hu
    | cons k ks ih => exact fun u hu => ih _ (State.decideClaim_sighting hu hs k)
  exact hfold _ s.rebuildInterest h

/-! ### A case still ahead of its arming point (R112 to R117) -/

theorem State.armTest_of_ahead (h : s.divertEntry c = some d) (ha : (s.lead + 100 : Nat) < travelDiff d.arrival s.travel.count) :
    s.armTest c = s := by
  simp only [State.armTest, h, reachedBefore]
  exact if_neg fun hr => absurd (of_decide_eq_true hr.2) (Int.not_le.mpr ha)

theorem State.fireTest_of_waiting (h : s.divertEntry c = some d) (hw : d.phase = .waiting) : s.fireTest c = s := by
  simp [State.fireTest, h, hw]

theorem State.offTest_of_waiting (h : s.divertEntry c = some d) (hw : d.phase = .waiting) : s.offTest c = s := by
  simp [State.offTest, h, hw]

theorem State.windowTest_of_open (h : s.divertEntry c = some d) (ho : s.windowOver d = false) : s.windowTest c = s := by
  simp [State.windowTest, h, ho]

/-- R106: a travel value ahead by less than 2^30 mm is not past, nor is one a little further on. -/
theorem isPast_onward_of_ahead {t a : TravelMm} {k : Nat} (h0 : 0 ≤ travelDiff a t) (h30 : travelDiff a t < 2 ^ 30) (hk : k ≤ 2 ^ 30) :
    isPast t (onward a k) = false := by
  unfold travelDiff at h0 h30
  have hsum : t - (a + BitVec.ofNat 32 k) = -(a - t + BitVec.ofNat 32 k) := by
    bv_omega
  rw [isPast, decide_eq_false_iff_not, travelDiff, onward, hsum]
  generalize a - t = x at *
  rw [BitVec.toInt_eq_toNat_cond] at *
  bv_omega

theorem State.divertTests_of_ahead (h : s.divert = [d]) (hw : d.phase = .waiting)
    (ha : (s.lead + 100 : Nat) < travelDiff d.arrival s.travel.count) (ho : s.windowOver d = false) : s.divertTests = s := by
  have hd : s.divertEntry d.caseId = some d := by simp [State.divertEntry, h]
  simp only [State.divertTests, State.forEntries, h, List.map_cons, List.map_nil, List.foldl_cons, List.foldl_nil,
    State.armTest_of_ahead hd ha, State.fireTest_of_waiting hd hw, State.offTest_of_waiting hd hw, State.windowTest_of_open hd ho]

/-- R112: the schedule entry of a case just won. -/
def State.scheduled (s : State) (e : Sighting) : DivertEntry :=
  { caseId := e.caseId, arrival := e.arrival, belt := clamp 50 800 (s.beltLength e), phase := .waiting, fire := none }

/-- R112: a case ahead of its arming point joins an empty schedule, and nothing fires. -/
theorem State.joinDivert_of_ahead (h : s.divert = []) (ha : (s.lead + 100 : Nat) < travelDiff e.arrival s.travel.count)
    (h30 : travelDiff e.arrival s.travel.count < 2 ^ 30) (ht : s.start.cfg.confirmTail ≤ 1000) :
    s.joinDivert e = s.setDivert [s.scheduled e] := by
  have hopen : (s.setDivert [s.scheduled e]).windowOver (s.scheduled e) = false := by
    have hbelt : (s.scheduled e).belt ≤ 800 := by simp only [State.scheduled, clamp]; omega
    have h0 : 0 ≤ travelDiff e.arrival s.travel.count := by omega
    exact isPast_onward_of_ahead h0 h30 (by simp only [State.setDivert_start]; omega)
  rw [State.joinDivert, h]
  exact State.divertTests_of_ahead rfl rfl ha hopen

/-! ### The case won (R91) -/

/-- R91: the entry of a case won against line `n`. -/
def Sighting.wonFor (e : Sighting) (n : Nat) : Sighting := { e with state := .ours, queued := false, line := .counted n }

/-- R91: the state with the case won and the change of the line's count told. -/
def State.claimCounted (s : State) (e : Sighting) (n : Nat) : State :=
  ((s.updLine n (fun l => { l with claimed := l.claimed + 1 })).updSighting e.caseId (fun _ => e.wonFor n)).countsChanged

theorem State.claimCounted_frame (s : State) (e : Sighting) (n : Nat) :
    (s.claimCounted e n).start = s.start ∧ (s.claimCounted e n).job.record = s.job.record ∧ (s.claimCounted e n).map = s.map ∧
      (s.claimCounted e n).travel = s.travel ∧ (s.claimCounted e n).divert = s.divert ∧ (s.claimCounted e n).staging = s.staging ∧
      (s.claimCounted e n).arm = s.arm ∧ (s.claimCounted e n).plate = s.plate ∧ (s.claimCounted e n).pins = s.pins ∧
      (s.claimCounted e n).pending = s.pending := by
  simp [State.claimCounted, State.updLine]

theorem State.claimCounted_lineAt (s : State) (e : Sighting) (n i : Nat) :
    (s.claimCounted e n).lineAt i = if i = n then (s.lineAt i).map (fun l => { l with claimed := l.claimed + 1 }) else s.lineAt i := by
  rw [← State.lineAt_updLine]
  simp [State.lineAt, State.claimCounted]

theorem State.claimCounted_sighting (h : s.sighting c = some e) (n : Nat) : (s.claimCounted e n).sighting c = some (e.wonFor n) := by
  have hc : e.caseId = c := State.caseId_of_sighting h
  have hwon : ((s.updLine n (fun l => { l with claimed := l.claimed + 1 })).updSighting e.caseId (fun _ => e.wonFor n)).sighting c =
      (s.sighting c).map (fun _ => e.wonFor n) :=
    (State.sighting_updSighting (g := fun _ => e.wonFor n) (fun _ _ => rfl) c).trans (if_pos hc.symm)
  exact State.countsChanged_sighting (by rw [hwon, h]; rfl) (by simp [Sighting.wonFor])

/-- R80: the belt length of a case won is the gate's, or its line's. -/
theorem State.claimCounted_beltLength (h : s.lineAt n = some l) :
    (s.claimCounted e n).beltLength (e.wonFor n) = if e.gate.length = 0 then l.length else e.gate.length := by
  have hline : (s.claimCounted e n).lineAt n = some { l with claimed := l.claimed + 1 } := by
    rw [State.claimCounted_lineAt, if_pos rfl, h]
    rfl
  simp only [State.beltLength, State.nominalLength, Sighting.wonFor, hline]

/-- R91, R112: the state with the case won, counted, and alone in the schedule. -/
def State.caseWon (s : State) (e : Sighting) (n : Nat) : State :=
  (s.claimCounted e n).setDivert [(s.claimCounted e n).scheduled (e.wonFor n)]

/-- R10, R91: in an ACTIVE job a case still ahead of its arming point is counted against the candidate line, and only waits. -/
theorem State.winCase_of_ahead {r : JobRecord} (hr : s.job.record = some r) (hact : r.phase = .active)
    (hc : s.candidateLine e.product = some (n, l)) (hd : s.divert = []) (ha : (s.lead + 100 : Nat) < travelDiff e.arrival s.travel.count)
    (h30 : travelDiff e.arrival s.travel.count < 2 ^ 30) (ht : s.start.cfg.confirmTail ≤ 1000) : s.winCase e = s.caseWon e n := by
  obtain ⟨hstart, hrecord, -, htravel, hdivert, -⟩ := s.claimCounted_frame e n
  have hphase : s.phase = some .active := by simp [State.phase, hr, hact]
  have hcount : s.countClaim e = (s.updLine n (fun l => { l with claimed := l.claimed + 1 }), .counted n) := by
    simp only [State.countClaim, hphase, hc]
  have hlead : (s.claimCounted e n).lead = s.lead := by simp only [State.lead, htravel, hstart]
  have hjoin : (s.claimCounted e n).joinDivert (e.wonFor n) = s.caseWon e n :=
    State.joinDivert_of_ahead (hdivert.trans hd) (by rwa [hlead, htravel]) (by rwa [htravel]) (by rwa [hstart])
  have hactive : (s.caseWon e n).active = true := by
    simp [State.active, State.phase, State.caseWon, hrecord, hr, hact]
  have hwin : s.winCase e = if (s.caseWon e n).active then s.caseWon e n else (s.caseWon e n).cancelOne e.caseId := by
    simp only [State.winCase, hcount, reduceCtorEq, if_false, ← hjoin]
    rfl
  rw [hwin, if_pos hactive]

end Sys2Proof.Machine

open Sys2Proof Sys2Proof.Machine

/-- Settles O36: the entry's state decides what the own CLAIM does; a CLAIMING case is counted, and its schedule entry only waits. -/
theorem ownClaimWinsTheCase : Obligations.OwnClaimWinsTheCase := by
  refine ⟨fun c lap s f hf hp => ?_, fun c lap s f e r n l hf hp he hst hlap hr hact hl hprod hopen hroom hlow hdiv ha h30 htail => ?_⟩
  · intro u run
    have told : ∀ t, u.ownClaim c (min 15 lap.toNat) = t → run = .next t.finish := fun t ht => ht ▸ exec_claim_own hf hp
    have hsight : u.sighting c = s.sighting c := by simp [State.sighting, u]
    obtain ⟨hmode, hreports⟩ := heardOwn_claim_reports hf hp
    rw [← hsight]
    refine ⟨fun hnone => ⟨u.releaseCase c .missed, told _ (State.ownClaim_of_none hnone _), ?_, ?_, ?_, ?_, ?_⟩,
      fun e he => ⟨fun hlap => ?_, fun hlap hst => ?_⟩⟩
    · intro hfull hback hplace
      exact State.releaseCase_queues .missed (hmode.trans hfull) (by simpa [u] using hback) (Nat.lt_of_le_of_lt (Nat.le_of_eq hreports) hplace)
    · simp [State.releaseCase_sightings, u]
    · simp [u]
    · simp [u]
    · simp [u]
    · exact told _ (State.ownClaim_of_other_lap he hlap)
    · exact told _ (hlap ▸ State.ownClaim_second he (by rcases hst with ⟨o, ho⟩ | ho <;> simp [ho]))
  · let u := Safety.heardOwn s (.claim c lap)
    obtain ⟨hstart, hclaim, hjob, hmap, -, htravel, hdivert, hstaging, harm, hplate, hpins, hpending⟩ := heardOwn_claim_frame s c lap
    obtain ⟨wstart, wrecord, wmap, wtravel, -, wstaging, warm, wplate, wpins, wpending⟩ := u.claimCounted_frame e n
    have hsight : u.sighting c = some e := (congrArg (fun k : ClaimEngine => k.sightings.find? _) hclaim).trans he
    have hlines : ∀ i, u.lineAt i = s.lineAt i := fun i => congrArg (fun j : JobUnit => j.lines.getD i none) hjob
    have hcandidate : u.candidateLine e.product = some (n, l) := by
      refine State.candidateLine_of_lowest ((hlines n).trans hl) hprod (LineRec.canTake_eq_true.mpr ⟨hopen, hroom⟩) ?_
      intro i l' hi hl' hp'
      rw [Bool.eq_false_iff, ne_eq, LineRec.canTake_eq_true, Decidable.not_and_iff_not_or_not, Nat.not_lt, Nat.le_zero]
      exact hlow i l' hi ((hlines i).symm.trans hl') hp'
    have hlead : u.lead = s.lead := by simp only [State.lead, htravel, hstart, u]
    have hwin : u.winCase e = u.caseWon e n :=
      State.winCase_of_ahead (by rw [hjob, hr]) hact hcandidate (hdivert.trans hdiv) (by rw [hlead, htravel]; exact ha)
        (by rw [htravel]; exact h30) (by rw [hstart]; exact htail)
    refine ⟨u.caseWon e n, ?_, State.claimCounted_sighting hsight n, ?_, fun i hi => ?_, ?_, wrecord.trans (congrArg _ hjob),
      wstart.trans hstart, wmap.trans hmap, wtravel.trans htravel, wstaging.trans hstaging, warm.trans harm, wplate.trans hplate,
      wpins.trans hpins, wpending.trans hpending⟩
    · rw [exec_claim_own hf hp, ← hlap, State.ownClaim_of_claiming hsight hst, hwin]
    · exact (u.claimCounted_lineAt e n n).trans (by rw [if_pos rfl, hlines, hl]; rfl)
    · exact (u.claimCounted_lineAt e n i).trans (by rw [if_neg hi, hlines])
    · simp only [State.caseWon, State.setDivert_divert, State.scheduled, State.claimCounted_beltLength ((hlines n).trans hl), clamp]
      rfl
end

section
/-! SUPPORT. CELL STATUS (R98, R174, R179): the peer table, and the lockout with the bid and the own CLAIMs withdrawn (R4, R97). -/

namespace Sys2Proof.Machine

variable {s : State} {sender : Station} {fs : StatusFields} {o : Offer}

/-! ### By origin and sender (R67, R98, R174) -/

theorem exec_cellStatus_other (h : s.bus.hears = true) (h0 : sender ≠ 0) (h31 : sender ≠ 31) (fs : StatusFields) :
    exec (.cellStatus (.other sender) fs) s = .next ((Safety.heardFrom s).otherStatus sender fs).finish := by
  simp only [exec, execCellStatus, State.hear, State.hearOther_of_hears h h0 h31, goes]

theorem exec_cellStatus_own {f : TxFrame} (h : s.bus.sendingFrame = some f) (hp : f.payload = .status fs) :
    exec (.cellStatus .own fs) s = .next ((Safety.heardOwn s (.status fs)).setEvents
      { (Safety.heardOwn s (.status fs)).events with holdoff := some holdoffTime }).finish := by
  simp only [exec, execCellStatus, State.hear, State.hearOwn_of_sending h hp, goes]

theorem State.otherStatus_of_other (h : s.start.station ≠ some sender) :
    s.otherStatus sender fs = s.setClaim { s.claim with peers := s.claim.peers.set (sender.toNat - 1) (peerOf fs) } := if_neg h

theorem State.otherStatus_of_same (h : s.start.station = some sender) : s.otherStatus sender fs = s.duplicate := if_pos h

/-! ### The lockout (R179) -/

/-- R179: the lockout set, and DUPLICATE STATION raised. -/
def State.lockedOut (s : State) : State := (s.setStart { s.start with lockout := true }).raise .duplicateStation

@[simp] theorem State.lockedOut_frame (s : State) :
    s.lockedOut.start = { s.start with lockout := true } ∧ s.lockedOut.claim = s.claim ∧ s.lockedOut.job = s.job ∧
      s.lockedOut.map = s.map ∧ s.lockedOut.planner = s.planner ∧ s.lockedOut.travel = s.travel ∧ s.lockedOut.divert = s.divert ∧
      s.lockedOut.staging = s.staging ∧ s.lockedOut.arm = s.arm ∧ s.lockedOut.plate = s.plate ∧ s.lockedOut.pins = s.pins ∧
      s.lockedOut.pending = s.pending :=
  (s.setStart { s.start with lockout := true }).raise_frame .duplicateStation

theorem State.duplicate_of_joining (h : s.start.state = .joining) : s.duplicate = s.lockedOut := by
  simp only [State.duplicate, h, State.lockedOut]

theorem State.duplicate_of_locked (h : s.start.state = .idle) (hl : s.start.lockout = true) :
    s.duplicate = s.raise .duplicateStation := by
  simp only [State.duplicate, h, hl, if_true]

theorem State.duplicate_of_idle (h : s.start.state = .idle) (hl : s.start.lockout = false) :
    s.duplicate = (s.lockedOut.withdrawBid some).withdrawClaims := by
  simp only [State.duplicate, h, hl, State.lockedOut, Bool.false_eq_true, if_false]

/-- R173: a prompt CELL STATUS asked for is kept for the end of the holdoff exactly while the holdoff runs. -/
theorem State.promptStatus_events (s : State) :
    s.promptStatus.events = { s.events with prompt := s.events.holdoff.isSome } := by
  unfold State.promptStatus
  split <;> simp [*]

/-- R168, R173: what an event leaves in the event unit does not depend on the lockout. -/
theorem State.lockedOut_events (s : State) : s.lockedOut.events = (s.raise .duplicateStation).events := by
  have raised : ∀ cls, ((s.setStart { s.start with lockout := true }).raiseAs cls .duplicateStation).events =
      (s.raiseAs cls .duplicateStation).events := by
    intro cls
    cases cls with
    | off | count | deferred => rfl
    | prompt =>
      by_cases hl : s.events.latched.getLsbD EventKind.duplicateStation.number = true <;>
        simp [State.raiseAs, hl, State.promptStatus_events, State.countEvent, State.latchEvent]
  have hlocked : s.lockedOut = if s.start.state = .starting then s.setStart { s.start with lockout := true }
      else (s.setStart { s.start with lockout := true }).raiseAs (s.classOf .duplicateStation) .duplicateStation := rfl
  rw [hlocked, State.raise]
  by_cases hs : s.start.state = .starting
  · rw [if_pos hs, if_pos hs]
    rfl
  · rw [if_neg hs, if_neg hs]
    exact raised _

/-- R179: apart from the CELL STATUS, the frame heard and the lockout leave the queue as it was. -/
theorem lockedOut_heardFrom_queue {q : TxFrame → Bool} (hq : ∀ f : TxFrame, f.payload.group = .statusPlace → q f = false)
    (s : State) : (Safety.heardFrom s).lockedOut.bus.queue.filter q = s.bus.queue.filter q :=
  (State.raise_others hq _ _).2.trans (State.frameSeen_others hq ..).2

/-! ### The bid withdrawn (R4, R73) -/

theorem isClaim_of_statusPlace (f : TxFrame) (h : f.payload.group = .statusPlace) : isClaim f.payload = false := by
  cases hp : f.payload with
  | claim => simp [hp, TxPayload.group] at h
  | _ => rfl

theorem isAdoptOf_of_statusPlace {j : JobId} (f : TxFrame) (h : f.payload.group = .statusPlace) : isAdoptOf j f.payload = false := by
  cases hp : f.payload with
  | adopt => simp [hp, TxPayload.group] at h
  | _ => rfl

theorem isAdoptOf_eq_true {j : JobId} {p : TxPayload} : isAdoptOf j p = true ↔ p = .adopt j := by
  cases p <;> simp [isAdoptOf]

section
variable {b : Bus} {key : TxPayload → Bool}

/-- R73: a withdrawal comes too late where the frames of the key, one at least, have all begun. -/
theorem Bus.withdrawAnswer_of_begun (hsome : ∃ f ∈ b.queue, key f.payload = true)
    (hall : ∀ f ∈ b.queue, key f.payload = true → f.sending = true) : b.withdrawAnswer key = .begun := by
  obtain ⟨f, hf, hk⟩ := hsome
  have hwaits : b.queue.any (fun f => key f.payload && !f.sending) = false := by simpa using hall
  have hbegun : b.queue.any (fun f => key f.payload && f.sending) = true :=
    List.any_eq_true.mpr ⟨f, hf, by rw [hk, hall f hf hk]; rfl⟩
  simp [Bus.withdrawAnswer, hwaits, hbegun]

section
variable (hw : ∀ f ∈ b.queue, key f.payload = true → f.sending = false)
include hw

theorem Bus.withdrawAnswer_of_waiting : b.withdrawAnswer key ≠ .begun := by
  have hbegun : b.queue.any (fun f => key f.payload && f.sending) = false := by simpa using hw
  unfold Bus.withdrawAnswer
  split <;> simp [hbegun]

/-- R73: a withdrawal takes the first of the frames that wait. -/
theorem Bus.withdraw_filter :
    (b.withdraw key).queue.filter (fun f => key f.payload) = (b.queue.filter (fun f => key f.payload)).tail := by
  have taken : ∀ fs : List TxFrame, (∀ f ∈ fs, key f.payload = true → f.sending = false) →
      (removeFirst (fun f => key f.payload && !f.sending) fs).filter (fun f => key f.payload) =
        (fs.filter (fun f => key f.payload)).tail := by
    intro fs
    induction fs with
    | nil => exact fun _ => rfl
    | cons f fs ih =>
      intro hall
      obtain ⟨hf, hfs⟩ := List.forall_mem_cons.mp hall
      by_cases hk : key f.payload = true
      · simp [removeFirst, hk, hf hk]
      · simp [removeFirst, hk, ih hfs]
  exact taken b.queue hw

end

end

section
variable (ho : s.job.offer = some o)
include ho

theorem State.withdrawBid_of_sending (hb : o.bid = .sending) (g : Offer → Option Offer) :
    s.withdrawBid g = s.setJob { s.job with offer := g o } := by
  simp only [State.withdrawBid, ho, hb]

theorem State.withdrawBid_of_begun (hb : o.bid = .queued) (hsome : ∃ f ∈ s.bus.queue, isAdoptOf o.job f.payload = true)
    (hall : ∀ f ∈ s.bus.queue, isAdoptOf o.job f.payload = true → f.sending = true) (g : Offer → Option Offer) :
    s.withdrawBid g = s.setJob { s.job with offer := g { o with bid := .sending } } := by
  simp only [State.withdrawBid, ho, hb, Bus.withdrawAnswer_of_begun hsome hall, if_true]

/-- R4: a bid whose ADOPTs all wait is withdrawn, and its offer record is EMPTY. -/
theorem State.withdrawBid_of_waiting (hb : o.bid = .queued)
    (hw : ∀ f ∈ s.bus.queue, isAdoptOf o.job f.payload = true → f.sending = false) (g : Offer → Option Offer) :
    (s.withdrawBid g).job.offer = none ∧ (s.withdrawBid g).bus.queue.filter (fun f => isAdoptOf o.job f.payload) =
      (s.bus.queue.filter (fun f => isAdoptOf o.job f.payload)).tail := by
  have hgone : s.withdrawBid g = (s.setBus (s.bus.withdraw (isAdoptOf o.job))).clearOffer := by
    simp only [State.withdrawBid, ho, hb, if_neg (Bus.withdrawAnswer_of_waiting hw)]
  rw [hgone]
  exact ⟨rfl, Bus.withdraw_filter hw⟩

end

/-- R4: the withdrawal of a bid leaves the job and the build list, and every frame that is no ADOPT. -/
theorem State.withdrawBid_others (s : State) (g : Offer → Option Offer) :
    (s.withdrawBid g).job.record = s.job.record ∧ (s.withdrawBid g).job.lines = s.job.lines ∧
      ∀ q : TxFrame → Bool, (∀ f j, f.payload = .adopt j → q f = false) →
        (s.withdrawBid g).bus.queue.filter q = s.bus.queue.filter q := by
  unfold State.withdrawBid
  (repeat' split)
  case h_2.isFalse =>
    refine ⟨rfl, rfl, fun q hq => filter_removeFirst fun f hf => ?_⟩
    have hkey := List.find?_some hf
    exact hq f _ (isAdoptOf_eq_true.mp (Bool.and_eq_true_iff.mp hkey).1)
  all_goals exact ⟨rfl, rfl, fun _ _ => rfl⟩

/-! ### The own CLAIMs withdrawn (R97) -/

/-- R97: an entry once the own CLAIMs are withdrawn. -/
def Sighting.withdrawn (e : Sighting) (begun : Bool) : Sighting :=
  if begun then e else { e with state := if e.state = .claiming then .free else e.state, queued := false }

theorem State.withdrawClaims_sightings (s : State) :
    s.withdrawClaims.claim.sightings = s.claim.sightings.map (fun e => e.withdrawn (s.bus.claimBegun e)) := by
  refine List.map_congr_left fun e _ => ?_
  cases hb : s.bus.claimBegun e with
  | true => simp [Sighting.withdrawn]
  | false => cases hs : e.state <;> simp [Sighting.withdrawn, hs]

/-- R97: whether a CLAIM has begun is read from the queue's CLAIMs alone. -/
theorem Bus.claimBegun_congr {a b : Bus}
    (h : a.queue.filter (fun f => isClaim f.payload) = b.queue.filter (fun f => isClaim f.payload)) (e : Sighting) :
    a.claimBegun e = b.claimBegun e := by
  have hread : ∀ b : Bus, b.claimBegun e =
      (b.queue.filter (fun f => isClaim f.payload)).any (fun f => f.sending && e.isOwnClaim f.payload) := by
    intro b
    rw [List.any_filter, Bus.claimBegun]
    refine congrArg b.queue.any (funext fun f => ?_)
    cases f.payload <;> simp [isClaim, Sighting.isOwnClaim]
  rw [hread a, hread b, h]

end Sys2Proof.Machine

open Sys2Proof Sys2Proof.Machine

/-- Settles O40: by origin, sender and start state; at the lockout, by where the ADOPT and each own CLAIM stand. -/
theorem cellStatusByOriginAndSender : Obligations.CellStatusByOriginAndSender := by
  intro sender fs s u run
  refine ⟨fun hh h0 h31 => ?_, fun f hf hp => exec_cellStatus_own hf hp⟩
  have told : ∀ t, u.otherStatus sender fs = t → run = .next t.finish := fun t ht => ht ▸ exec_cellStatus_other hh h0 h31 fs
  refine ⟨fun hst => ?_, fun hst hj => ?_, fun hst hi hl => ?_, fun hst hi hl => ?_⟩
  · exact told _ (State.otherStatus_of_other hst)
  · exact told _ ((State.otherStatus_of_same hst).trans (State.duplicate_of_joining hj))
  · exact told _ ((State.otherStatus_of_same hst).trans (State.duplicate_of_locked hi hl))
  · let v := u.lockedOut
    let w := v.withdrawBid some
    obtain ⟨hrecord, hlines, hothers⟩ := v.withdrawBid_others some
    have hbegun : ∀ e, w.bus.claimBegun e = s.bus.claimBegun e := Bus.claimBegun_congr <|
      (hothers _ fun f j hp => by simp [hp, isClaim]).trans (lockedOut_heardFrom_queue isClaim_of_statusPlace s)
    have hsightings : w.withdrawClaims.claim.sightings = s.claim.sightings.map (fun e => e.withdrawn (s.bus.claimBegun e)) := by
      simp [State.withdrawClaims_sightings, hbegun, w, v, u]
    refine ⟨w.withdrawClaims, told _ ((State.otherStatus_of_same hst).trans (State.duplicate_of_idle hi hl)), by simp [w, v, u],
      by simp [w, v, State.lockedOut_events], fun f => w.withdrawClaims_queue,
      ⟨by rw [hsightings, List.length_map], fun i e he => ⟨fun hb => ?_, fun hb => ?_⟩⟩, fun o ho => ?_,
      by simp [w, hrecord, v, u], by simp [w, hlines, v, u], ?_⟩
    · simp [hsightings, he, Sighting.withdrawn, Bus.claimBegun_eq_true.mpr hb]
    · have hno : s.bus.claimBegun e = false := Bool.eq_false_iff.mpr (mt Bus.claimBegun_eq_true.mp hb)
      simp [hsightings, he, Sighting.withdrawn, hno]
    · intro adopts
      have hoffer : v.job.offer = some o := by simpa [v, u] using ho
      have hadopts : v.bus.queue.filter (fun f => isAdoptOf o.job f.payload) = adopts :=
        lockedOut_heardFrom_queue isAdoptOf_of_statusPlace s
      have hmem : ∀ f ∈ v.bus.queue, isAdoptOf o.job f.payload = true → f ∈ adopts := fun f hf hk =>
        hadopts ▸ List.mem_filter.mpr ⟨hf, hk⟩
      have hoffered : w.withdrawClaims.job.offer = w.job.offer := by simp
      rw [hoffered]
      refine ⟨fun hb => ?_, fun hb hw => ?_, fun hb hsome hall => ?_⟩
      · exact congrArg (fun t : State => t.job.offer) (State.withdrawBid_of_sending hoffer hb some)
      · obtain ⟨hempty, hqueue⟩ := State.withdrawBid_of_waiting hoffer hb (fun f hf hk => hw f (hmem f hf hk)) some
        refine ⟨hempty, fun hone f hf => Bool.eq_false_iff.mpr fun hk => ?_⟩
        have hnone : adopts.tail = [] := List.eq_nil_of_length_eq_zero (by rw [List.length_tail]; omega)
        have hleft : f ∈ w.bus.queue.filter (fun f => isAdoptOf o.job f.payload) :=
          List.mem_filter.mpr ⟨(List.mem_filter.mp hf).1, hk⟩
        rw [hqueue, hadopts, hnone] at hleft
        exact List.not_mem_nil hleft
      · obtain ⟨f, hf⟩ := List.exists_mem_of_ne_nil _ hsome
        have hbegan := State.withdrawBid_of_begun hoffer hb ⟨f, List.mem_filter.mp (hadopts ▸ hf)⟩
          (fun g hg hk => hall g (hmem g hg hk)) some
        exact congrArg (fun t : State => t.job.offer) hbegan
    · simp [w, v, u]
end

section
/-! SUPPORT. A forward count (R103, R104): the travel position gains the step, and its three parts stay digits. -/

namespace Sys2Proof.Machine

variable {s : State} {t : TravelUnit} {step r : Nat}

/-- R102, R103: in STARTING only the lines move. -/
theorem exec_forwardCount_of_starting (h : s.start.state = .starting) :
    exec .forwardCount s = .next (s.setPins { s.pins with encoder := s.pins.encoder + 1 }) := by
  simp [exec, execForwardCount, goes, State.running, h]

theorem exec_forwardCount_of_running (h : s.start.state ≠ .starting) :
    exec .forwardCount s = .next ((s.setPins { s.pins with encoder := s.pins.encoder + 1 }).counted
      (s.travel.forward s.start.cfg.step s.start.cfg.readR)) := by
  simp [exec, execForwardCount, goes, State.running, h]

/-- R104: a travel unit whose parts are the digits of a number stands at that number, but for what passes 2^32 mm. -/
theorem position_of_digits {n : Nat} (hcount : t.count = BitVec.ofNat 32 (n / r / 1000)) (hum : t.um = n / r % 1000)
    (hrem : t.rem = n % r) : Safety.position t r = n % (2 ^ 32 * 1000 * r) :=
  calc Safety.position t r
    _ = (n / r / 1000 % 2 ^ 32 * 1000 + n / r % 1000) * r + n % r := by rw [Safety.position, hcount, hum, hrem, BitVec.toNat_ofNat]
    _ = n % r + r * (n / r % 1000 + 1000 * (n / r / 1000 % 2 ^ 32)) := by
      rw [Nat.add_comm, Nat.mul_comm _ r, Nat.add_comm _ (n / r % 1000), Nat.mul_comm _ 1000]
    _ = n % (r * (1000 * 2 ^ 32)) := by rw [Nat.mod_mul, Nat.mod_mul]
    _ = n % (2 ^ 32 * 1000 * r) := by rw [Nat.mul_comm r, Nat.mul_comm 1000]

/-- R104: a forward count adds the step to the position. -/
theorem TravelUnit.forward_position (hrem : t.rem < r) (step : Nat) :
    Safety.position (t.forward step r) r = (Safety.position t r + step) % (2 ^ 32 * 1000 * r) := by
  have hr : 0 < r := Nat.zero_lt_of_lt hrem
  have hsum : Safety.position t r + step = (t.count.toNat * 1000 + t.um) * r + (t.rem + step) := Nat.add_assoc ..
  have hdiv : (Safety.position t r + step) / r = t.count.toNat * 1000 + (t.um + (t.rem + step) / r) := by
    rw [hsum, Nat.mul_comm, Nat.mul_add_div hr, Nat.add_assoc]
  refine position_of_digits ?_ ?_ ?_
  · rw [hdiv, Nat.mul_comm, Nat.mul_add_div (by decide)]
    simp [TravelUnit.forward, BitVec.ofNat_add]
  · rw [hdiv, Nat.mul_add_mod_self_right]
    rfl
  · rw [hsum, Nat.mul_add_mod_self_right]
    rfl

/-- R104: at most 33 mm are carried for the steps of the configuration's range. -/
theorem TravelUnit.forward_carry (hum : t.um < 1000) (hrem : t.rem < r) (hstep : step ≤ 32760) :
    ((t.forward step r).count - t.count).toNat ≤ 33 := by
  have hquot : (t.rem + step) / r ≤ step := by
    have hstepr : step ≤ r * step := Nat.le_mul_of_pos_left step (Nat.zero_lt_of_lt hrem)
    exact Nat.le_of_lt_succ (Nat.div_lt_of_lt_mul (by rw [Nat.mul_succ]; omega))
  have hcarry : (t.um + (t.rem + step) / r) / 1000 ≤ 33 := by omega
  have hdiff : (t.forward step r).count - t.count = BitVec.ofNat 32 ((t.um + (t.rem + step) / r) / 1000) := by
    rw [TravelUnit.forward, BitVec.add_comm, BitVec.add_sub_cancel]
  rw [hdiff, BitVec.toNat_ofNat]
  exact Nat.le_trans (Nat.mod_le _ _) hcarry

end Sys2Proof.Machine

open Sys2Proof Sys2Proof.Machine

/-- Settles O14: the new travel unit is the forward count of the old one, with the step and the remainder's base as read. -/
theorem forwardCountAddsTheStep : Obligations.ForwardCountAddsTheStep := by
  intro s step r lines
  refine ⟨exec_forwardCount_of_starting, fun hs hum hrem => ⟨s.travel.forward step r, TravelUnit.forward_position hrem step,
    Nat.mod_lt _ (by decide), Nat.mod_lt _ (Nat.zero_lt_of_lt hrem), rfl, fun hN hP => ?_, exec_forwardCount_of_running hs⟩⟩
  have hstep : step ≤ 4095 * 2 ^ 3 := Nat.mul_le_mul (by split <;> omega) (Nat.pow_le_pow_right (by decide) hP)
  exact TravelUnit.forward_carry hum hrem hstep
end

section
/-! SUPPORT. The events of a step (R167, R168): an event's counter and flag as one reading, and the operations that leave it as it was. -/

namespace Sys2Proof.Machine

variable {s t u v : State} {e k : EventKind}

/-- R168: what the event unit keeps of an event: its counter and its latched flag. -/
def State.eventMark (s : State) (e : EventKind) : Nat × Bool := (s.events.counters.getD e.number 0, s.events.latched.getLsbD e.number)

theorem notRaised_iff : Safety.NotRaised e s t ↔ t.eventMark e = s.eventMark e := by
  simp [Safety.NotRaised, State.eventMark]

theorem State.eventMark_congr (h : t.events = s.events) (e : EventKind) : t.eventMark e = s.eventMark e := by
  simp [State.eventMark, h]

theorem State.raise_eventMark (s : State) (h : k ≠ e) : (s.raise k).eventMark e = s.eventMark e := notRaised_iff.mp (s.raise_not h)

/-- An event raised once within a step whose other parts leave its mark is raised once by the step. -/
theorem raisedOnce_within (h : Safety.RaisedOnce e u v) (hstart : u.start = s.start)
    (hlen : u.events.counters.length = s.events.counters.length) (hbefore : u.eventMark e = s.eventMark e)
    (hafter : t.eventMark e = v.eventMark e) : Safety.RaisedOnce e s t := by
  intro hs hl
  obtain ⟨hcount, hlatch⟩ := h (hstart ▸ hs) (hlen.trans hl)
  obtain ⟨hcu, hlu⟩ := Prod.mk.inj hbefore
  obtain ⟨hcv, hlv⟩ := Prod.mk.inj hafter
  rw [hcu, hstart] at hcount
  rw [hlu, hstart] at hlatch
  exact ⟨hcv.trans hcount, hlv.trans hlatch⟩

theorem State.raise_counters_length (s : State) (k : EventKind) :
    (s.raise k).events.counters.length = s.events.counters.length := by
  unfold State.raise
  split
  · rfl
  · rw [(s.raiseAs_events _ k).1]
    split <;> simp

/-! ### The divert tests and the end of a step -/

/-- R117: a MISSED case raises DIVERT MISSED and no other event. -/
theorem State.missDivert_eventMark (s : State) (c : CaseId) (h : e ≠ .divertMissed) : (s.missDivert c).eventMark e = s.eventMark e :=
  (State.raise_eventMark _ h.symm).trans (State.eventMark_congr (by simp) e)

theorem State.fireTest_eventMark (s : State) (c : CaseId) (h : e ≠ .divertMissed) : (s.fireTest c).eventMark e = s.eventMark e := by
  unfold State.fireTest
  (repeat' split)
  · rfl
  · exact State.eventMark_congr (by simp) e
  · exact State.eventMark_congr (by simp) e
  · exact s.missDivert_eventMark c h
  · rfl

theorem State.windowTest_eventMark (s : State) (c : CaseId) (h : e ≠ .divertMissed) : (s.windowTest c).eventMark e = s.eventMark e := by
  unfold State.windowTest
  (repeat' split)
  · rfl
  · exact s.missDivert_eventMark c h
  · rfl

theorem State.divertTests_eventMark (s : State) (h : e ≠ .divertMissed) : s.divertTests.eventMark e = s.eventMark e :=
  calc s.divertTests.eventMark e
    _ = ((s.forEntries fun s c => (s.armTest c).fireTest c).forEntries State.offTest).eventMark e :=
      forEntries_keeps (State.eventMark · e) _ (fun u c => u.windowTest_eventMark c h) _
    _ = (s.forEntries fun s c => (s.armTest c).fireTest c).eventMark e :=
      forEntries_keeps (State.eventMark · e) _ (fun u c => State.eventMark_congr (by simp) e) _
    _ = s.eventMark e :=
      forEntries_keeps (State.eventMark · e) _ (fun u c => ((u.armTest c).fireTest_eventMark c h).trans (State.eventMark_congr (by simp) e)) _

/-- R18: a drain that ends the job raises JOB ENDED, and one that clears it raises no event. -/
theorem State.drainTest_eventMark (s : State) (h : e ≠ .jobEnded) : s.drainTest.eventMark e = s.eventMark e := by
  unfold State.drainTest
  (repeat' split)
  · rfl
  · exact (State.raise_eventMark _ h.symm).trans (State.eventMark_congr (by simp) e)
  · exact State.eventMark_congr (by simp) e
  · rfl
  · rfl

theorem State.finish_eventMark (s : State) (h : e ≠ .jobEnded) : s.finish.eventMark e = s.eventMark e :=
  calc s.finish.eventMark e
    _ = s.issueReleased.returnHeld.drainTest.eventMark e := State.eventMark_congr (by simp [State.finish]) e
    _ = s.issueReleased.returnHeld.eventMark e := State.drainTest_eventMark _ h
    _ = s.eventMark e := State.eventMark_congr (by simp) e

end Sys2Proof.Machine
end

section
/-! SUPPORT. The end of a speed window (R107 to R111): what each lock state makes of it, and the events of that. -/

namespace Sys2Proof.Machine

variable {s t : State} {x y : TravelUnit} {vm : Nat}

/-! ### The measured speed and the runs (R107, R108) -/

theorem measuredSpeed_eq (window : Int) : measuredSpeed window = if 0 < window then min 65535 (window / 20).toNat else 0 := by
  unfold measuredSpeed
  split <;> omega

/-- R108: the lock run after a window. -/
def TravelUnit.nextLockRun (t : TravelUnit) (vm : Nat) : Nat := if lockWindow t.v vm then t.lockRun + 1 else 0

theorem lockWindow_eq_true {v vm : Nat} : lockWindow v vm = true ↔ 0 < vm ∧ ((vm : Int) - v).natAbs ≤ v / 32 := by
  simp [lockWindow]

/-- R107: the travel unit with the window ended: counted, emptied and begun anew. -/
def TravelUnit.windowRestarted (t : TravelUnit) : TravelUnit :=
  { t with window := 0, stopRun := nextStopRun t.stopRun (measuredSpeed t.window), windowLeft := some speedWindowTime }

/-! ### A window taken, with its events (R111) -/

/-- R111: LOCK CHANGED is raised, with or without a re-examination of the claims. -/
theorem State.lockChanged_events (s : State) : s.lockChanged.events = (s.raise .lockChanged).events := by
  unfold State.lockChanged
  dsimp only
  split <;> simp

/-- R107 to R111: between `s` and `t` a window was taken that left the travel unit `x`, with the events of the lock state's change. -/
structure State.WindowTaken (s t : State) (x : TravelUnit) : Prop where
  travel_eq : t.travel = x
  changed : x.lock ≠ s.travel.lock → Safety.RaisedOnce .lockChanged s t
  steady : x.lock = s.travel.lock → Safety.NotRaised .lockChanged s t
  stopped : s.travel.lock ≠ .stopped → x.lock = .stopped → Safety.RaisedOnce .beltStopped s t
  moving : s.travel.lock = .stopped ∨ x.lock ≠ .stopped → Safety.NotRaised .beltStopped s t

theorem State.windowTaken_steady (h : x.lock = s.travel.lock) : s.WindowTaken (s.setTravel x) x where
  travel_eq := rfl
  changed hne := absurd h hne
  steady _ := ⟨rfl, rfl⟩
  stopped hs hx := absurd (h.symm.trans hx) hs
  moving _ := ⟨rfl, rfl⟩

/-- A change of the lock state to another than STOPPED; `y` is the travel unit at the event. -/
theorem State.windowTaken_changed (hne : x.lock ≠ s.travel.lock) (hx : x.lock ≠ .stopped) (ht : t.travel = x)
    (he : t.events = (s.setTravel y).lockChanged.events) : s.WindowTaken t x where
  travel_eq := ht
  changed _ := raisedOnce_within ((s.setTravel y).raise_once .lockChanged) rfl rfl rfl
    (State.eventMark_congr (he.trans (State.lockChanged_events _)) _)
  steady h := absurd h hne
  stopped _ h := absurd h hx
  moving _ := notRaised_iff.mpr ((State.eventMark_congr (he.trans (State.lockChanged_events _)) _).trans
    (State.raise_eventMark (s.setTravel y) (by decide)))

theorem State.windowTaken_lockChanged (hne : x.lock ≠ s.travel.lock) (hx : x.lock ≠ .stopped) :
    s.WindowTaken (s.setTravel x).lockChanged x :=
  State.windowTaken_changed hne hx (by simp) rfl

/-- The entry to STOPPED: LOCK CHANGED first and then BELT STOPPED. -/
theorem State.windowTaken_stopped (hs : s.travel.lock ≠ .stopped) (hx : x.lock = .stopped) :
    s.WindowTaken ((s.setTravel x).lockChanged.raise .beltStopped) x where
  travel_eq := by simp
  changed _ := raisedOnce_within ((s.setTravel x).raise_once .lockChanged) rfl rfl rfl
    ((State.raise_eventMark _ (by decide)).trans (State.eventMark_congr (State.lockChanged_events _) _))
  steady h := absurd (h.symm.trans hx) hs
  stopped _ _ := raisedOnce_within ((s.setTravel x).lockChanged.raise_once .beltStopped) (by simp)
    (by rw [State.lockChanged_events, State.raise_counters_length]; rfl)
    ((State.eventMark_congr (State.lockChanged_events _) _).trans (State.raise_eventMark (s.setTravel x) (by decide))) rfl
  moving h := h.elim (absurd · hs) (absurd hx)

/-! ### What each lock state makes of a window (R108 to R110) -/

theorem State.windowBy_of_locked (hl : s.travel.lock = .locked) : s.windowBy vm = s.trackSpeed vm := by
  simp only [State.windowBy, hl]

theorem State.windowBy_of_unlocked (hl : s.travel.lock = .unlocked) (hs : ¬ 25 ≤ s.travel.stopRun) : s.windowBy vm = s.acquire vm := by
  simp only [State.windowBy, hl, if_neg hs]

theorem State.windowBy_standing (hl : s.travel.lock = .stopped) : s.WindowTaken (s.windowBy 0) s.travel := by
  have hby : s.windowBy 0 = s.setTravel s.travel := by
    simp only [State.windowBy, hl, if_true]
    rfl
  exact hby ▸ State.windowTaken_steady rfl

/-- R110: out of STOPPED, the window is taken by acquisition; a lock run of 1 does not lock. -/
theorem State.windowBy_starting (hl : s.travel.lock = .stopped) (hv : vm ≠ 0) :
    s.WindowTaken (s.windowBy vm)
      { s.travel with v := stepSpeed s.travel.v vm 2, lock := .unlocked, lockRun := if lockWindow s.travel.v vm then 1 else 0 } := by
  let y := { s.travel with lock := .unlocked, lockRun := 0 }
  have hrun : ¬ 8 ≤ (if lockWindow s.travel.v vm then 1 else 0 : Nat) := by split <;> omega
  refine State.windowTaken_changed (y := y) (by simp [hl]) (by simp) ?_ ?_ <;>
    simp [State.windowBy, State.acquire, hl, hv, hrun, y]

/-- R110: the entry to STOPPED. -/
theorem State.windowBy_stopping (hl : s.travel.lock = .unlocked) (hs : 25 ≤ s.travel.stopRun) :
    s.WindowTaken (s.windowBy vm) { s.travel with v := 0, lock := .stopped, lockRun := 0 } := by
  simpa [State.windowBy, State.stopBelt, hl, hs] using
    State.windowTaken_stopped (s := s) (x := { s.travel with v := 0, lock := .stopped, lockRun := 0 }) (by simp [hl]) rfl

/-- R108: a window of acquisition short of the lock. -/
theorem State.windowBy_acquiring (hl : s.travel.lock = .unlocked) (hs : ¬ 25 ≤ s.travel.stopRun) (hr : ¬ 8 ≤ s.travel.nextLockRun vm) :
    s.WindowTaken (s.windowBy vm) { s.travel with v := stepSpeed s.travel.v vm 2, lockRun := s.travel.nextLockRun vm } := by
  have hby : s.windowBy vm = s.setTravel { s.travel with v := stepSpeed s.travel.v vm 2, lockRun := s.travel.nextLockRun vm } :=
    (State.windowBy_of_unlocked hl hs).trans (if_neg hr)
  exact hby ▸ State.windowTaken_steady rfl

/-- R108: the window that makes the lock run 8. -/
theorem State.windowBy_locking (hl : s.travel.lock = .unlocked) (hs : ¬ 25 ≤ s.travel.stopRun) (hr : 8 ≤ s.travel.nextLockRun vm) :
    s.WindowTaken (s.windowBy vm) { s.travel with v := stepSpeed s.travel.v vm 2, lock := .locked, lockRun := 0 } := by
  have hby : s.windowBy vm = (s.setTravel { s.travel with v := stepSpeed s.travel.v vm 2, lock := .locked, lockRun := 0 }).lockChanged :=
    (State.windowBy_of_unlocked hl hs).trans (if_pos hr)
  exact hby ▸ State.windowTaken_lockChanged (by simp [hl]) (by simp)

/-- R109: a window of tracking. -/
theorem State.windowBy_tracking (hl : s.travel.lock = .locked) (hn : ((vm : Int) - s.travel.v).natAbs ≤ s.travel.v / 8) :
    s.WindowTaken (s.windowBy vm) { s.travel with v := stepSpeed s.travel.v vm 16 } := by
  have hby : s.windowBy vm = s.setTravel { s.travel with v := stepSpeed s.travel.v vm 16 } :=
    (State.windowBy_of_locked hl).trans (if_neg (Nat.not_lt.mpr hn))
  exact hby ▸ State.windowTaken_steady rfl

/-- R109: the loss of lock. -/
theorem State.windowBy_losing (hl : s.travel.lock = .locked) (hn : ¬ ((vm : Int) - s.travel.v).natAbs ≤ s.travel.v / 8) :
    s.WindowTaken (s.windowBy vm)
      { s.travel with v := stepSpeed s.travel.v vm 2, vHold := s.travel.v, lock := .unlocked, lockRun := 0 } := by
  have hby : s.windowBy vm = (s.setTravel
      { s.travel with v := stepSpeed s.travel.v vm 2, vHold := s.travel.v, lock := .unlocked, lockRun := 0 }).lockChanged :=
    (State.windowBy_of_locked hl).trans (if_pos (Nat.not_le.mp hn))
  exact hby ▸ State.windowTaken_lockChanged (by simp [hl]) (by simp)

/-! ### The end of the window (R107, R113) -/

/-- R107: what follows a window taken moves no travel and raises no event of the lock state. -/
theorem State.windowEnd_taken
    (h : (s.setTravel s.travel.windowRestarted).WindowTaken
      ((s.setTravel s.travel.windowRestarted).windowBy (measuredSpeed s.travel.window)) x) :
    s.WindowTaken s.windowEnd x := by
  let u := (s.setTravel s.travel.windowRestarted).windowBy (measuredSpeed s.travel.window)
  have hend : s.windowEnd = u.divertTests.passSightings.finish := rfl
  have mark : ∀ e, e ≠ .jobEnded → e ≠ .divertMissed → s.windowEnd.eventMark e = u.eventMark e := fun e he hd =>
    calc s.windowEnd.eventMark e
      _ = u.divertTests.passSightings.eventMark e := State.finish_eventMark _ he
      _ = u.divertTests.eventMark e := State.eventMark_congr (by simp) e
      _ = u.eventMark e := u.divertTests_eventMark hd
  obtain ⟨htravel, hchanged, hsteady, hstopped, hmoving⟩ := h
  have hlock := mark .lockChanged (by decide) (by decide)
  have hbelt := mark .beltStopped (by decide) (by decide)
  exact ⟨by simpa [hend] using htravel,
    fun hx => raisedOnce_within (hchanged hx) rfl rfl rfl hlock,
    fun hx => notRaised_iff.mpr (hlock.trans (notRaised_iff.mp (hsteady hx))),
    fun hs hx => raisedOnce_within (hstopped hs hx) rfl rfl rfl hbelt,
    fun hx => notRaised_iff.mpr (hbelt.trans (notRaised_iff.mp (hmoving hx)))⟩

/-- R107: the command at the end of the window. -/
theorem exec_speedWindowEnd (h : s.travel.windowLeft = some 0) : exec .speedWindowEnd s = .next s.windowEnd := by
  simp [exec, execSpeedWindowEnd, goes, h]

/-- R108, log 3: where the window in hand makes the lock run 8, the row is that window's end. -/
theorem exec_lockAcquired (h : s.travel.windowLeft = some 0) (hl : s.travel.lock = .unlocked) (hr : 7 ≤ s.travel.lockRun)
    (hw : lockWindow s.travel.v (measuredSpeed s.travel.window) = true) : exec .lockAcquired s = .next s.windowEnd := by
  simp [exec, execLockAcquired, goes, h, hl, hr, hw]

/-- R110, log 3: where the window in hand makes the stop run 25, the row is that window's end. -/
theorem exec_enterStopped (h : s.travel.windowLeft = some 0) (hl : s.travel.lock = .unlocked) (hr : 24 ≤ s.travel.stopRun)
    (hw : measuredSpeed s.travel.window = 0) : exec .enterStopped s = .next s.windowEnd := by
  simp [exec, execEnterStopped, goes, h, hl, hr, hw]

end Sys2Proof.Machine

open Sys2Proof Sys2Proof.Machine

/-- Settles O18: the lock state and its tests decide which window is taken; the two lock rows are such windows. -/
theorem speedWindowMovesTheLock : Obligations.SpeedWindowMovesTheLock := by
  intro s hleft vm v stopRun near moved lockRun u halved expected
  have hvm : measuredSpeed s.travel.window = vm := measuredSpeed_eq _
  have hu : s.travel.windowRestarted = u := by rw [TravelUnit.windowRestarted, hvm]; rfl
  have hwindow : lockWindow s.travel.v vm = true ↔ 0 < vm ∧ near 32 := lockWindow_eq_true
  have hrun : u.nextLockRun vm = lockRun := ite_congr (propext hwindow) (fun _ => rfl) (fun _ => rfl)
  have hby : (s.setTravel u).WindowTaken ((s.setTravel u).windowBy vm) expected := by
    cases hl : s.travel.lock with
    | unlocked =>
      by_cases hs : 25 ≤ stopRun
      · have hx : expected = { u with v := 0, lock := .stopped, lockRun := 0 } := by simp only [expected, hl, if_pos hs]
        exact hx ▸ State.windowBy_stopping (s := s.setTravel u) hl hs
      · by_cases hr : 8 ≤ lockRun
        · have hx : expected = { u with v := moved 2, lock := .locked, lockRun := 0 } := by
            simp only [expected, hl, if_neg hs, halved, if_pos hr]
          exact hx ▸ State.windowBy_locking (s := s.setTravel u) hl hs (hrun ▸ hr)
        · have hx : expected = { u with v := moved 2, lockRun := u.nextLockRun vm } := by
            simp only [expected, hl, if_neg hs, halved, if_neg hr, hrun]
          exact hx ▸ State.windowBy_acquiring (s := s.setTravel u) hl hs (hrun ▸ hr)
    | locked =>
      by_cases hn : near 8
      · have hx : expected = { u with v := moved 16 } := by simp only [expected, hl, if_pos hn]
        exact hx ▸ State.windowBy_tracking (s := s.setTravel u) hl hn
      · have hx : expected = { u with v := moved 2, vHold := v, lock := .unlocked, lockRun := 0 } := by
          simp only [expected, hl, if_neg hn]
        exact hx ▸ State.windowBy_losing (s := s.setTravel u) hl hn
    | stopped =>
      by_cases hz : vm = 0
      · have hx : expected = u := by simp only [expected, hl, if_pos hz]
        rw [hx, hz]
        exact State.windowBy_standing (s := s.setTravel u) hl
      · have hx : expected = { u with v := moved 2, lock := .unlocked, lockRun := if lockWindow v vm then 1 else 0 } := by
          have hnear : lockWindow v vm = true ↔ near 32 := hwindow.trans (and_iff_right (Nat.pos_of_ne_zero hz))
          simp only [expected, hl, if_neg hz, hnear]
        exact hx ▸ State.windowBy_starting (s := s.setTravel u) hl hz
  obtain ⟨htravel, hchanged, hsteady, hstopped, hmoving⟩ := State.windowEnd_taken (hvm.symm ▸ hu.symm ▸ hby)
  refine ⟨s.windowEnd, exec_speedWindowEnd hleft, htravel, hchanged, hsteady, hstopped, hmoving, by simp, by simp, by simp, by simp,
    fun hl hr hv hn => ⟨exec_lockAcquired hleft hl hr (hvm ▸ hwindow.mpr ⟨hv, hn⟩), ?_⟩,
    fun hl hr hv => ⟨exec_enterStopped hleft hl hr (hvm.trans hv), ?_⟩⟩
  · have hs : ¬ 25 ≤ stopRun := by simp [stopRun, Nat.ne_of_gt hv]
    have hrun8 : 8 ≤ lockRun := by simpa [lockRun, hv, hn] using hr
    simp only [htravel, expected, hl, if_neg hs, halved, if_pos hrun8]
  · have hs : 25 ≤ stopRun := by
      simp only [stopRun, if_pos hv]
      omega
    simp only [htravel, expected, hl, if_pos hs]
end

section
/-! SUPPORT. A case at the lane eye (R116, R118, R125, R126): the entry it confirms, or the stray it is. -/

namespace Sys2Proof.Machine

variable {s : State} {d : DivertEntry} {x : Sighting}

/-- R116: a case start in a running part: the eye, the schedule and the end of the step. -/
theorem exec_caseStart (h : s.start.state ≠ .starting) :
    exec .caseStart s = .next (s.setPins { s.pins with laneBlocked := true }).laneStart.finish := by
  simp [exec, execCaseStart, goes, State.running, h]

/-- R116: an entry is confirmed that was pushed and whose confirm window holds the running travel. -/
theorem State.confirmable_eq (s : State) (d : DivertEntry) :
    s.confirmable d = decide ((d.phase = .fired ∨ d.phase = .spent) ∧ d.fire ≠ none ∧
      0 ≤ (s.travel.count - (d.arrival - 100)).toInt ∧
      ¬ 0 < (s.travel.count - (d.arrival + BitVec.ofNat 32 (d.belt + s.start.cfg.confirmTail))).toInt) := by
  rw [Bool.eq_iff_iff]
  simp [State.confirmable, State.windowOver, isPast, travelDiff, onward, Option.isSome_iff_ne_none, and_assoc]

theorem State.laneStart_of_found (h : s.divert.find? s.confirmable = some d) (hx : s.sighting d.caseId = some x) :
    s.laneStart = ((s.dropDivert d.caseId).dropSighting d.caseId).joinLane x := by
  simp [State.laneStart, State.confirm, h, hx]

theorem State.laneStart_of_not_found (h : s.divert.find? s.confirmable = none) : s.laneStart = s.strayAtLane := by
  simp [State.laneStart, h]

/-- R114: an event leaves the lane occupancy. -/
@[simp] theorem State.raise_occupancy (s : State) (k : EventKind) : (s.raise k).occupancy = s.occupancy := by
  simp [State.occupancy, State.laneCount]

theorem State.strayAtLane_of_room (h : s.occupancy < 6) :
    s.strayAtLane = ((s.raise .strayCase).setStaging { (s.raise .strayCase).staging with
      lane := (s.raise .strayCase).staging.lane ++ [CaseRecord.stray (s.raise .strayCase).staging.clock] }).setFlag :=
  if_pos ((s.raise_occupancy .strayCase).symm ▸ h)

theorem State.strayAtLane_of_full (h : ¬ s.occupancy < 6) :
    s.strayAtLane = (s.raise .strayCase).setStaging { (s.raise .strayCase).staging with
      overflow := sat8 (s.raise .strayCase).staging.overflow } :=
  if_neg ((s.raise_occupancy .strayCase).symm ▸ h)

end Sys2Proof.Machine

open Sys2Proof Sys2Proof.Machine

/-- Settles O19: by whether the schedule holds an entry that the case start confirms, and for a stray by the lane's room. -/
theorem caseStartConfirmsOrIsStray : Obligations.CaseStartConfirmsOrIsStray := by
  intro s hs found eye
  have hfound : found = eye.divert.find? eye.confirmable :=
    congrArg s.divert.find? (funext fun d => (eye.confirmable_eq d).symm)
  have hstart : exec .caseStart s = .next eye.laneStart.finish := exec_caseStart hs
  rw [hstart]
  refine ⟨fun d x hd hx => ?_, fun hn => ?_⟩
  · rw [State.laneStart_of_found (s := eye) (hfound.symm.trans hd) hx]
    rfl
  · rw [State.laneStart_of_not_found (hfound.symm.trans hn)]
    intro u
    by_cases hroom : s.occupancy < 6
    · rw [if_pos hroom, State.strayAtLane_of_room (s := eye) hroom]
      rfl
    · rw [if_neg hroom, State.strayAtLane_of_full (s := eye) hroom]
      rfl
end

section
/-! SUPPORT. The hold-reason set (R59, R146), and the messages that an unheld arm port takes (R136, R138, R141, R146, R175). -/

namespace Sys2Proof.Machine

/-! ### Reasons added and removed (R58, R59) -/

@[simp] theorem Holds.put_has (h : Holds) (r : HoldReason) : h.put r (h.has r) = h := by
  cases r <;> rfl

/-- R58, R59: a reason that joins the set discards a held result and then sets the planning request flag. -/
theorem State.addHold_eq (s : State) (r : HoldReason) :
    s.addHold r = s.setPlanner { s.planner with
      holds := s.planner.holds.put r true
      result := if s.planner.holds.has r then s.planner.result else none
      flag := s.planner.flag || (!s.planner.holds.has r && s.planner.result.isSome) } := by
  unfold State.addHold
  by_cases h : s.planner.holds.has r = true
  · have hput : s.planner.holds.put r true = s.planner.holds := h ▸ s.planner.holds.put_has r
    simp only [h, hput, if_true, Bool.not_true, Bool.false_and, Bool.or_false]
    rfl
  · cases hr : s.planner.result <;> simp [h, hr]

/-- R54, R59: a reason that leaves the set sets the planning request flag where it leaves it empty. -/
theorem State.removeHold_eq (s : State) (r : HoldReason) :
    s.removeHold r = s.setPlanner { s.planner with
      holds := s.planner.holds.put r false
      flag := s.planner.flag || (s.planner.holds.has r && !(s.planner.holds.put r false).any) } := by
  unfold State.removeHold
  by_cases h : s.planner.holds.has r = true
  · simp [h]
  · have hput : s.planner.holds.put r false = s.planner.holds := Bool.eq_false_iff.mpr h ▸ s.planner.holds.put_has r
    simp only [h, hput, Bool.false_eq_true, if_false, Bool.false_and, Bool.or_false]
    rfl

/-! ### The messages taken with the reset line released (R175) -/

section
variable {s : State} (h : s.start.held = false)
include h

theorem State.unheld_of_released (f : State → State) : s.unheld f = f s := by
  simp [State.unheld, h]

theorem exec_hold_of_released : exec .hold s = .next (s.addHold .operator).finish :=
  congrArg goes (State.unheld_of_released h _)

theorem exec_clearHold_of_released : exec .clearHold s = .next ((s.removeHold .operator).removeHold .slip).finish :=
  congrArg goes (State.unheld_of_released h _)

theorem exec_ready_of_released (g : GripperState) : exec (.ready g) s = .next (s.takeReady g) :=
  congrArg goes (State.unheld_of_released h _)

theorem exec_accept_of_released (tag : Byte) : exec (.accept tag) s = .next (s.takeAccept tag) :=
  congrArg goes (State.unheld_of_released h _)

theorem exec_faultReport_of_released (tag : Byte) (d : FaultDisposition) (n : BitVec 16) :
    exec (.faultReport tag d n) s = .next (s.takeFault tag d n) :=
  congrArg goes (State.unheld_of_released h _)

end

end Sys2Proof.Machine

open Sys2Proof Sys2Proof.Machine

/-- Settles O45: OPERATOR added, or removed with SLIP after it, each by the one rule of the hold-reason set. -/
theorem holdAndClearHold : Obligations.HoldAndClearHold := by
  intro s hs
  refine ⟨?_, ?_⟩
  · rw [exec_hold_of_released hs, State.addHold_eq]
    rfl
  · have hflag : ∀ flag operator slip disturbed overload armStopped : Bool,
        ((flag || (operator && !(false || slip || disturbed || overload || armStopped))) ||
          (slip && !(false || false || disturbed || overload || armStopped))) =
        (flag || ((operator || slip) && !disturbed && !overload && !armStopped)) := by decide
    rw [exec_clearHold_of_released hs, State.removeHold_eq, State.removeHold_eq, ← hflag]
    rfl
end

section
/-! SUPPORT. The case of the outstanding command (R120, R128, R131), and an ACCEPT (R138, R156): the port, the move and the watch. -/

namespace Sys2Proof.Machine

variable {s : State} {src : Source} {r : CaseRecord} {c : Outstanding} {tag : Byte}

/-! ### The marked record at a source (R120) -/

theorem State.markedAt_of_caseAt (h : s.caseAt src = some r) (hm : r.mark ≠ none) : s.markedAt src = some r := by
  simp [State.markedAt, h, Option.isSome_iff_ne_none, hm]

theorem State.markedAt_eq_none (h : ∀ r, s.caseAt src = some r → r.mark = none) : s.markedAt src = none := by
  simpa [State.markedAt, Option.filter_eq_none_iff] using h

theorem State.caseAt_lane {rest : List CaseRecord} (h : s.staging.lane = r :: rest) : s.caseAt .lane = some r := by
  simp [State.caseAt, h]

theorem State.caseAt_buffer {b : Nat} (hb : 1 ≤ b) (h : s.staging.buffer.getD (b - 1) none = some r) : s.caseAt (.buffer b) = some r :=
  (if_neg (Nat.ne_of_gt hb)).trans h

theorem State.caseAt_gripper {g : Gripper} (h : s.staging.gripper = some g) : s.caseAt .gripper = some g.held := by
  simp [State.caseAt, h]

theorem Staging.setBuffer_of_pos (g : Staging) {b : Nat} (hb : 1 ≤ b) (r : Option CaseRecord) :
    g.setBuffer b r = { g with buffer := g.buffer.set (b - 1) r } := if_neg (Nat.ne_of_gt hb)

/-! ### The notices of a case that has moved (R127) -/

@[simp] theorem State.setFlag_planner (s : State) : s.setFlag.planner = { s.planner with flag := true } := rfl

@[simp] theorem State.toldLeft_planner (s : State) (src : Source) : (s.toldLeft src).planner = { s.planner with flag := true } := by
  unfold State.toldLeft
  split <;> simp

/-! ### The move of an ACCEPT (R128) -/

theorem State.acceptMove_of_absent (h : s.markedAt src = none) (k : ArmCommand) (target : Nat) : s.acceptMove src k target = s := by
  simp only [State.acceptMove, h]

theorem State.acceptMove_staging (h : s.markedAt src = some r) (k : ArmCommand) (target : Nat) :
    (s.acceptMove src k target).staging =
      { s.staging.without src with gripper := some { held := r, command := some k, target := target, disposition := .none } } := by
  simp only [State.acceptMove, h]
  split <;> simp

/-- R127, log 43: a case that leaves the lane or a buffer position sets the planner's flag. -/
theorem State.acceptMove_planner (h : s.markedAt src = some r) (k : ArmCommand) (target : Nat) :
    (s.acceptMove src k target).planner = if src = .gripper then s.planner else { s.planner with flag := true } := by
  simp only [State.acceptMove, h]
  split <;> simp

/-! ### The watch of a PLACE (R156) -/

theorem State.watchFor_of_not_place (h : c.action.command ≠ .place) : s.watchFor c = s := by
  cases ha : c.action with
  | place t => exact absurd (by rw [ha]; rfl) h
  | _ => simp only [State.watchFor, ha]

theorem State.watchFor_of_place {t : PlaceTarget} {id : CaseId} (ha : c.action = .place t) (hid : c.caseId = some id) :
    s.watchFor c = s.openWatch id c.line t.figures.m := by
  simp only [State.watchFor, ha, hid]

/-! ### The ACCEPT (R138) -/

/-- R138: the port as the command is accepted. -/
def State.acceptPort (s : State) : State :=
  (s.setArm { s.arm with acceptTimer := none, doneTimer := some (s.start.cfg.doneTimeout * 1000), port := .busy }).setProgress .accepted

theorem State.accepted_eq (s : State) (c : Outstanding) :
    s.accepted c = (s.acceptPort.acceptMove c.source c.action.command c.action.position).watchFor c := rfl

@[simp] theorem State.acceptPort_markedAt (s : State) (src : Source) : s.acceptPort.markedAt src = s.markedAt src := rfl

theorem State.accepted_arm (h : s.arm.cmd = some c) :
    (s.accepted c).arm =
      { s.arm with acceptTimer := none, doneTimer := some (s.start.cfg.doneTimeout * 1000), port := .busy,
                   cmd := some { c with progress := .accepted } } := by
  simp [State.accepted_eq, State.acceptPort, State.setProgress, h]

theorem State.accepted_of_held (h : s.markedAt c.source = some r) :
    (s.accepted c).staging =
        { s.staging.without c.source with
          gripper := some { held := r, command := some c.action.command, target := c.action.position, disposition := .none } } ∧
      (s.accepted c).planner = if c.source = .gripper then s.planner else { s.planner with flag := true } := by
  rw [← s.acceptPort_markedAt] at h
  simp only [State.accepted_eq, State.watchFor_frame, State.acceptMove_staging h, State.acceptMove_planner h]
  exact ⟨rfl, rfl⟩

theorem State.accepted_of_absent (h : s.markedAt c.source = none) :
    (s.accepted c).staging = s.staging ∧ (s.accepted c).planner = s.planner ∧ (s.accepted c).bus = s.bus := by
  rw [← s.acceptPort_markedAt] at h
  simp only [State.accepted_eq, State.watchFor_frame, State.acceptMove_of_absent h]
  exact ⟨rfl, rfl, rfl⟩

theorem State.takeAccept_of_match (hp : s.arm.port = .awaitAccept) (hc : s.arm.cmd = some c) (ht : c.tag = tag) :
    s.takeAccept tag = (s.accepted c).finish := by
  simp only [State.takeAccept, hp, hc, ht, if_true]

theorem State.takeAccept_of_unexpected (h : s.arm.port ≠ .awaitAccept ∨ ∀ c, s.arm.cmd = some c → c.tag ≠ tag) :
    s.takeAccept tag = s.countUnexpected := by
  unfold State.takeAccept
  split
  · next c hp hc =>
    have ht : c.tag ≠ tag := h.elim (absurd hp) (· c hc)
    rw [if_neg ht]
  · rfl

end Sys2Proof.Machine

open Sys2Proof Sys2Proof.Machine

/-- Settles O42: the ACCEPT awaited by where its source holds the case, then by the action; every other one is counted. -/
theorem acceptMovesTheCaseToTheGripper : Obligations.AcceptMovesTheCaseToTheGripper := by
  intro tag s hs
  refine ⟨fun cmd hp hc ht => ?_, fun h => ?_⟩
  · refine ⟨s.accepted cmd, ?_, State.accepted_arm hc, ⟨?_, ?_, ?_, ?_⟩, ?_, ?_, ?_⟩
    · rw [exec_accept_of_released hs, State.takeAccept_of_match hp hc ht]
    · intro r rest hsrc hlane hm
      have hmark : s.markedAt cmd.source = some r := hsrc ▸ State.markedAt_of_caseAt (State.caseAt_lane hlane) hm
      obtain ⟨hstaging, hplanner⟩ := State.accepted_of_held hmark
      simp [hstaging, hplanner, hsrc, Staging.without, hlane]
    · intro b r hsrc hb hbuf hm
      have hmark : s.markedAt cmd.source = some r := hsrc ▸ State.markedAt_of_caseAt (State.caseAt_buffer hb hbuf) hm
      obtain ⟨hstaging, hplanner⟩ := State.accepted_of_held hmark
      simp [hstaging, hplanner, hsrc, Staging.without, Staging.setBuffer_of_pos _ hb]
    · intro g hsrc hg hm
      have hmark : s.markedAt cmd.source = some g.held := hsrc ▸ State.markedAt_of_caseAt (State.caseAt_gripper hg) hm
      obtain ⟨hstaging, hplanner⟩ := State.accepted_of_held hmark
      simp [hstaging, hplanner, hsrc, Staging.without]
    · exact fun h => State.accepted_of_absent (State.markedAt_eq_none h)
    · intro tgt id ha hid w
      rw [State.accepted_eq, State.watchFor_of_place ha hid]
      simp [State.openWatch, Plate.restartQuiet, State.acceptPort, w]
    · intro ha
      simp [State.accepted_eq, State.watchFor_of_not_place ha, State.acceptPort]
    · simp
  · rw [exec_accept_of_released hs, State.takeAccept_of_unexpected h]
    rfl
end

section
/-! SUPPORT. What the end of a command gives up of its case (R11, R95, R130, R142): the RELEASE, the claimed count, the event. -/

namespace Sys2Proof.Machine

variable {s s' t t' : State} {c : Option CaseId} {reason : Byte} {line : LineRef}

/-! ### An event raised (R168) -/

/-- R168: what an event leaves in the event unit follows from the event unit, the class table and the start state. -/
theorem State.raise_events_congr (hs : t.start = s.start) (he : t.events = s.events) (k : EventKind) :
    (t.raise k).events = (s.raise k).events := by
  have raised : ∀ cls, (t.raiseAs cls k).events = (s.raiseAs cls k).events := by
    intro cls
    cases cls with
    | off => exact he
    | count | deferred => simp [State.raiseAs, State.countEvent, State.latchEvent, he]
    | prompt =>
      by_cases hl : s.events.latched.getLsbD k.number = true <;>
        simp [State.raiseAs, he, hl, State.promptStatus_events, State.countEvent, State.latchEvent]
  have hclass : t.classOf k = s.classOf k := by simp only [State.classOf, hs]
  unfold State.raise
  rw [hs, hclass]
  split
  · exact he
  · exact raised _

/-! ### The report side of the queue (R68, R95) -/

/-- R95: what the release of a case reads: the line mode, the backlog and the frames of the report group. -/
def State.reportSide (s : State) : LineMode × List (CaseId × ReleaseReason) × List TxFrame :=
  (s.bus.mode, s.claim.backlog, s.bus.queue.filter (fun f => decide (f.payload.group = .reportGroup)))

theorem State.reportSide_congr (hb : t.bus = s.bus) (hc : t.claim = s.claim) : t.reportSide = s.reportSide := by
  simp only [State.reportSide, hb, hc]

@[simp] theorem State.raise_reportSide (s : State) (k : EventKind) : (s.raise k).reportSide = s.reportSide := by
  have hstatus : ∀ f : TxFrame, f.payload.group = .statusPlace → decide (f.payload.group = .reportGroup) = false := by
    intro f hf
    simp [hf]
  obtain ⟨hmode, hqueue⟩ := s.raise_others hstatus k
  simp [State.reportSide, hmode, hqueue]

/-- R89: a claim decision queues a CLAIM at most, which has places of its own. -/
theorem State.decideClaim_reportSide (s : State) (id : CaseId) : (s.decideClaim id).reportSide = s.reportSide := by
  have queued : ∀ {lap : Byte} {urgency : Nat} {b : Bus} (g : Sighting → Sighting),
      s.bus.tryQueue (.claim id lap) urgency = some b → ((s.setBus b).updSighting id g).reportSide = s.reportSide := by
    intro lap urgency b g hb
    obtain ⟨-, -, rfl⟩ := Bus.tryQueue_eq_some.mp hb
    have hqueue := s.bus.place_filter (q := fun f => decide (f.payload.group = .reportGroup)) (p := .claim id lap)
      (fun f hf => by simp [hf, TxPayload.group]) urgency
    simp [State.reportSide, State.updSighting, Bus.place_mode, hqueue]
  unfold State.decideClaim
  (repeat' split)
  · rfl
  · exact queued _ ‹_›
  all_goals rfl

@[simp] theorem State.reexamine_reportSide (s : State) : s.reexamine.reportSide = s.reportSide :=
  foldl_keeps _ _ State.decideClaim_reportSide _ _

@[simp] theorem State.setFlag_reportSide (s : State) : s.setFlag.reportSide = s.reportSide := rfl

@[simp] theorem State.countsChanged_reportSide (s : State) : s.countsChanged.reportSide = s.reportSide :=
  s.rebuildInterest.reexamine_reportSide

@[simp] theorem State.toldLeft_reportSide (s : State) (src : Source) : (s.toldLeft src).reportSide = s.reportSide := by
  unfold State.toldLeft State.laneFell
  split <;> simp

@[simp] theorem State.decreaseClaimed_reportSide (s : State) (l : LineRef) : (s.decreaseClaimed l).reportSide = s.reportSide := by
  unfold State.decreaseClaimed
  (repeat' split)
  · exact State.countsChanged_reportSide _
  · rfl
  · rfl

/-! ### The RELEASE of a case (R95) -/

/-- R95: from `s` to `t` the RELEASE of a case has gone into the queue, where line mode, backlog and report group had room for it. -/
def State.Released (s t : State) (c : Option CaseId) (reason : Byte) : Prop :=
  ∀ id, c = some id → s.bus.mode = .full → s.claim.backlog = [] → s.bus.inGroup .reportGroup < 7 →
    ∃ f ∈ t.bus.queue, f.payload = .release id reason

theorem State.releaseCaseOpt_released (s : State) (c : Option CaseId) (r : ReleaseReason) : s.Released (s.releaseCase? c r) c r.code := by
  intro id hid hm hb hg
  rw [hid]
  exact State.releaseCase_queues r hm hb hg

/-- R95: a RELEASE is one of the report side, so that the steps before and after it may do what they like to the rest of the queue. -/
theorem State.Released.congr (h : s.Released t c reason) (hs : s'.reportSide = s.reportSide) (ht : t'.reportSide = t.reportSide) :
    s'.Released t' c reason := by
  intro id hid hm hb hg
  obtain ⟨hmode, hback, hfront⟩ : s'.bus.mode = s.bus.mode ∧ s'.claim.backlog = s.claim.backlog ∧ _ = _ := by
    simpa only [State.reportSide, Prod.mk.injEq] using hs
  have hroom : s.bus.inGroup .reportGroup < 7 := Nat.lt_of_le_of_lt (Nat.le_of_eq (congrArg List.length hfront).symm) hg
  obtain ⟨f, hf, hp⟩ := h id hid (hmode ▸ hm) (hback ▸ hb) hroom
  have hreport : f ∈ t.reportSide.2.2 := List.mem_filter.mpr ⟨hf, by simp [hp, TxPayload.group]⟩
  exact ⟨f, (List.mem_filter.mp (ht ▸ hreport)).1, hp⟩

/-! ### The claimed count of a line (R11) -/

/-- R11: from `s` to `t` the line of a case has one claimed case less. -/
def State.Uncounted (s t : State) (line : LineRef) : Prop :=
  ∀ n l, line = .counted n → s.lineAt n = some l → t.lineAt n = some { l with claimed := l.claimed - 1 }

theorem State.lineAt_congr (h : t.job = s.job) (n : Nat) : t.lineAt n = s.lineAt n := by
  simp only [State.lineAt, h]

theorem State.decreaseClaimed_uncounted (s : State) (line : LineRef) : s.Uncounted (s.decreaseClaimed line) line := by
  intro n l hline hl
  have hlines : (s.decreaseClaimed line).lineAt n = (s.updLine n (fun l => { l with claimed := l.claimed - 1 })).lineAt n :=
    State.lineAt_congr (by simp [State.decreaseClaimed, hline, hl]) n
  rw [hlines, State.lineAt_updLine, if_pos rfl, hl, Option.map_some]

theorem State.Uncounted.congr (h : s.Uncounted t line) (hs : s'.job = s.job) (ht : t'.job = t.job) : s'.Uncounted t' line := by
  intro n l hline hl
  rw [State.lineAt_congr ht]
  exact h n l hline (State.lineAt_congr hs n ▸ hl)

@[simp] theorem State.decreaseClaimed_holds (s : State) (line : LineRef) :
    (s.decreaseClaimed line).planner.holds = s.planner.holds ∧ (s.decreaseClaimed line).planner.result = s.planner.result := by
  unfold State.decreaseClaimed State.countsChanged
  (repeat' split) <;> simp

end Sys2Proof.Machine
end

section
/-! SUPPORT. The moves of a command's case out of the place that holds it (R128 to R131), and the one marked record (R120). -/

namespace Sys2Proof.Machine

variable {s t : State} {src place : Source} {r : CaseRecord}

/-! ### Where the case is (R131) -/

theorem State.caseAt_congr (h : t.staging = s.staging) (x : Source) : t.caseAt x = s.caseAt x := by
  cases x <;> simp only [State.caseAt, h]

theorem State.commandCase_congr (h : t.staging = s.staging) (src : Source) : t.commandCase src = s.commandCase src := by
  have hat : t.caseAt = s.caseAt := funext (State.caseAt_congr h)
  unfold State.commandCase State.commandPlace State.markedAt
  rw [hat]

theorem State.commandCase_of_place (hp : s.commandPlace src = some place) (hr : s.caseAt place = some r) :
    s.commandCase src = some (place, r) := by
  simp [State.commandCase, hp, hr]

/-- R131: with its source empty of it, a command's case is the marked one of the gripper record. -/
theorem State.commandCase_of_gripper (hsrc : src = .gripper ∨ s.markedAt src = none) (hr : s.caseAt .gripper = some r)
    (hm : r.mark ≠ none) : s.commandCase src = some (.gripper, r) := by
  have hgrip := State.markedAt_of_caseAt hr hm
  rcases hsrc with rfl | hsrc
  · simp [State.commandCase, State.commandPlace, hgrip, hr]
  · simp [State.commandCase, State.commandPlace, hsrc, hgrip, hr]

theorem State.commandCase_place (h : s.commandCase src = some (place, r)) :
    place = if (s.markedAt src).isSome = true then src else .gripper := by
  obtain ⟨x, hx, hr⟩ := Option.bind_eq_some_iff.mp h
  obtain ⟨_, -, heq⟩ := Option.map_eq_some_iff.mp hr
  obtain rfl : x = place := (Prod.mk.inj heq).1
  unfold State.commandPlace at hx
  split at hx
  · next hs => rw [if_pos hs, Option.some.inj hx]
  · next hs =>
    split at hx
    · rw [if_neg hs, Option.some.inj hx]
    · cases hx

theorem State.commandCase_eq_none (h : ∀ x r, s.caseAt x = some r → r.mark = none) (src : Source) : s.commandCase src = none := by
  simp [State.commandCase, State.commandPlace, State.markedAt_eq_none (h _)]

/-! ### The moves (R129 to R131) -/

section
variable (h : s.commandCase src = some (place, r))
include h

theorem State.removeCase_staging : (s.removeCase src).staging = s.staging.without place := by
  simp [State.removeCase, h]

theorem State.moveToBuffer_staging (b : Nat) :
    (s.moveToBuffer src b).staging = (s.staging.without place).setBuffer b (some { r with mark := none }) := by
  simp [State.moveToBuffer, h]

theorem State.holdInGripper_staging (d : GripDisposition) :
    (s.holdInGripper src d).staging = { s.staging.without place with
      gripper := some { held := { r with mark := none }, command := none, target := 0, disposition := d } } := by
  simp [State.holdInGripper, h]

theorem State.returnCase_of_held :
    s.returnCase src =
      (((s.setStaging (s.staging.without place)).releaseCase? r.caseId .returned).decreaseClaimed r.line).toldLeft place := by
  simp only [State.returnCase, h]

theorem State.returnCase_staging : (s.returnCase src).staging = s.staging.without place := by
  simp [State.returnCase_of_held h]

/-- R130: a completed RETURN releases its case RETURNED. -/
theorem State.returnCase_released : s.Released (s.returnCase src) r.caseId 1 := by
  rw [State.returnCase_of_held h]
  exact ((s.setStaging (s.staging.without place)).releaseCaseOpt_released r.caseId .returned).congr rfl (by simp)

theorem State.returnCase_uncounted : s.Uncounted (s.returnCase src) r.line := by
  rw [State.returnCase_of_held h]
  exact (((s.setStaging (s.staging.without place)).releaseCase? r.caseId .returned).decreaseClaimed_uncounted r.line).congr
    (by simp) (by simp)

end

/-- R129: what the removal of a case makes of staging follows from staging. -/
theorem State.removeCase_staging_congr (h : t.staging = s.staging) (src : Source) :
    (t.removeCase src).staging = (s.removeCase src).staging := by
  have hcase := State.commandCase_congr h src
  unfold State.removeCase
  rw [hcase]
  split <;> simp [h]

@[simp] theorem State.removeCase_reportSide (s : State) (src : Source) : (s.removeCase src).reportSide = s.reportSide := by
  unfold State.removeCase
  split
  · rfl
  · exact State.toldLeft_reportSide _ _

/-! ### The hold-reason set and a held result under the moves -/

@[simp] theorem State.removeCase_holds (s : State) (src : Source) :
    (s.removeCase src).planner.holds = s.planner.holds ∧ (s.removeCase src).planner.result = s.planner.result := by
  unfold State.removeCase
  split <;> simp

@[simp] theorem State.moveToBuffer_holds (s : State) (src : Source) (b : Nat) :
    (s.moveToBuffer src b).planner.holds = s.planner.holds ∧ (s.moveToBuffer src b).planner.result = s.planner.result := by
  unfold State.moveToBuffer
  split <;> simp

@[simp] theorem State.holdInGripper_holds (s : State) (src : Source) (d : GripDisposition) :
    (s.holdInGripper src d).planner.holds = s.planner.holds ∧ (s.holdInGripper src d).planner.result = s.planner.result := by
  unfold State.holdInGripper
  split <;> simp

@[simp] theorem State.returnCase_holds (s : State) (src : Source) :
    (s.returnCase src).planner.holds = s.planner.holds ∧ (s.returnCase src).planner.result = s.planner.result := by
  unfold State.returnCase
  split <;> simp

@[simp] theorem State.acceptMove_holds (s : State) (src : Source) (k : ArmCommand) (target : Nat) :
    (s.acceptMove src k target).planner.holds = s.planner.holds ∧
      (s.acceptMove src k target).planner.result = s.planner.result := by
  unfold State.acceptMove
  (repeat' split) <;> simp

/-! ### The one marked record (R120) -/

/-- R120: a case in staging is one of the staged records, and taking it out leaves the others. -/
theorem State.stagedRecords_perm (h : s.caseAt place = some r) :
    s.stagedRecords.Perm (r :: (s.setStaging (s.staging.without place)).stagedRecords) := by
  cases place with
  | lane =>
    obtain ⟨rest, hlane⟩ := List.head?_eq_some_iff.mp h
    simp [State.stagedRecords, Staging.without, hlane]
  | buffer b =>
    have hpos : b ≠ 0 := fun hb => by simp [State.caseAt, Staging.bufferAt, hb] at h
    have hat : s.staging.buffer[b - 1]? = some (some r) := by
      simpa [State.caseAt, Staging.bufferAt, hpos, List.getD_eq_getElem?_getD, Option.getD_eq_iff] using h
    obtain ⟨hlt, hget⟩ := List.getElem?_eq_some_iff.mp hat
    have hsplit : s.staging.buffer = s.staging.buffer.take (b - 1) ++ some r :: s.staging.buffer.drop (b - 1 + 1) := by
      rw [← hget, ← List.drop_eq_getElem_cons hlt, List.take_append_drop]
    have hset : s.staging.buffer.set (b - 1) none = s.staging.buffer.take (b - 1) ++ none :: s.staging.buffer.drop (b - 1 + 1) :=
      List.set_eq_take_append_cons_drop.trans (if_pos hlt)
    have hbuf : (s.staging.buffer.filterMap id).Perm (r :: (s.staging.buffer.set (b - 1) none).filterMap id) := by
      rw [hset]
      conv => lhs; rw [hsplit]
      simp
    simp only [State.stagedRecords, Staging.without, Staging.setBuffer, hpos, if_false, State.setStaging_staging]
    exact ((hbuf.append_left _).trans List.perm_middle).append_right _
  | gripper =>
    obtain ⟨g, hg, rfl⟩ := Option.map_eq_some_iff.mp h
    simp only [State.stagedRecords, Staging.without, hg, State.setStaging_staging, Option.map_some, Option.map_none,
      Option.toList_some, Option.toList_none, List.append_nil]
    exact List.perm_append_singleton _ _

theorem State.mem_stagedRecords (h : s.caseAt place = some r) : r ∈ s.stagedRecords :=
  (State.stagedRecords_perm h).mem_iff.mpr List.mem_cons_self

/-- R120: with one marked case in staging, no other is marked once it is taken out. -/
theorem State.unmarked_without (hone : (s.stagedRecords.filter (fun x => x.mark.isSome)).length = 1)
    (h : s.caseAt place = some r) (hm : r.mark.isSome = true) {x : Source} {r' : CaseRecord}
    (hx : (s.setStaging (s.staging.without place)).caseAt x = some r') : r'.mark = none := by
  have hcount := ((State.stagedRecords_perm h).filter (fun x => x.mark.isSome)).length_eq
  rw [hone, List.filter_cons_of_pos (by exact hm), List.length_cons] at hcount
  have hnil : (s.setStaging (s.staging.without place)).stagedRecords.filter (fun x => x.mark.isSome) = [] :=
    List.eq_nil_of_length_eq_zero (by omega)
  simpa using List.filter_eq_nil_iff.mp hnil r' (State.mem_stagedRecords hx)

/-- R129, R131: with one marked case in staging, a second removal for its command finds nothing to remove. -/
theorem State.removeCase_staging_again (hone : (s.stagedRecords.filter (fun x => x.mark.isSome)).length = 1)
    (h : s.commandCase src = some (place, r)) (ht : t.staging = s.staging.without place) : (t.removeCase src).staging = t.staging := by
  obtain ⟨hat, hm, -⟩ := State.commandCase_eq_some h
  have hnone : t.commandCase src = none := State.commandCase_eq_none (fun x r' hx => State.unmarked_without hone hat hm
    ((State.caseAt_congr (t := s.setStaging (s.staging.without place)) ht.symm x).trans hx)) src
  rw [(State.moves_of_absent hnone 0 .none).1]

/-- R128, R131: after its ACCEPT a command's case is in the gripper record; what held it before is without it. -/
theorem State.acceptMove_commandCase (hone : (s.stagedRecords.filter (fun x => x.mark.isSome)).length = 1)
    (h : s.commandCase src = some (place, r)) (k : ArmCommand) (target : Nat) :
    (s.acceptMove src k target).commandCase src = some (.gripper, r) ∧
      ∀ g, { (s.acceptMove src k target).staging with gripper := g } = { s.staging.without place with gripper := g } := by
  obtain ⟨hat, hm, -⟩ := State.commandCase_eq_some h
  have hmark : r.mark ≠ none := Option.isSome_iff_ne_none.mp hm
  have hplace := State.commandCase_place h
  by_cases hsrc : s.markedAt src = none
  · obtain rfl : place = .gripper := by simpa [hsrc] using hplace
    rw [State.acceptMove_of_absent hsrc]
    exact ⟨h, fun g => rfl⟩
  · obtain rfl : place = src := by simpa [Option.isSome_iff_ne_none, hsrc] using hplace
    have hmoved := State.acceptMove_staging (State.markedAt_of_caseAt hat hmark) k target
    refine ⟨State.commandCase_of_gripper ?_ (by simp [State.caseAt, hmoved]) hmark, fun g => by rw [hmoved]⟩
    by_cases hgrip : place = .gripper
    · exact .inl hgrip
    · have hsame : (s.acceptMove place k target).caseAt place = (s.setStaging (s.staging.without place)).caseAt place := by
        cases place with
        | gripper => exact absurd rfl hgrip
        | lane => simp [State.caseAt, hmoved]
        | buffer b => simp [State.caseAt, hmoved, Staging.bufferAt]
      exact .inr (State.markedAt_eq_none fun r' hr' => State.unmarked_without hone hat hm (hsame.symm.trans hr'))

end Sys2Proof.Machine
end

section
/-! SUPPORT. The ends of a command (R129, R130, R142 to R144, R159): a PLACE undone, a case lost, a watch with no load to wait for. -/

namespace Sys2Proof.Machine

variable {s t u : State} {c : Outstanding} {id : CaseId} {q : Provisional} {w : Watch} {place : Source} {r : CaseRecord}

/-! ### A rollback asked for a case (R32, R33) -/

theorem State.provOf_of_found (h : s.map.prov = some q) (hq : q.caseId = id) : s.provOf id = some q := by
  simp [State.provOf, h, hq]

theorem State.provOf_eq_none (h : ∀ q, s.map.prov = some q → q.caseId ≠ id) : s.provOf id = none := by
  simpa [State.provOf, Option.filter_eq_none_iff] using h

theorem State.rollback_map_of_found (h : s.map.prov = some q) (hq : q.caseId = id) :
    (s.rollback id).map = s.map.rolledBack s.codeInUse q := by
  simp [State.rollback, State.provOf_of_found h hq, State.plannerDrop]

theorem State.rollback_of_absent (h : ∀ q, s.map.prov = some q → q.caseId ≠ id) : s.rollback id = s := by
  simp [State.rollback, State.provOf_eq_none h]

@[simp] theorem State.rollback_holds (s : State) (id : CaseId) : (s.rollback id).planner.holds = s.planner.holds := by
  unfold State.rollback
  split <;> rfl

/-- R33, R58: a rollback leaves no held result where there was none. -/
@[simp] theorem State.rollback_result (h : s.planner.result = none) (id : CaseId) : (s.rollback id).planner.result = none := by
  unfold State.rollback
  split
  · exact h
  · rfl

@[simp] theorem State.rollback_reportSide (s : State) (id : CaseId) : (s.rollback id).reportSide = s.reportSide :=
  State.reportSide_congr (by simp) (by simp)

/-! ### A watch closed (R158, R159) -/

theorem State.closeWatchOf_of_watch (h : s.plate.watch = some w) (hw : w.caseId = id) : s.closeWatchOf id = s.closeWatch := by
  simp [State.closeWatchOf, h, hw]

theorem State.closeWatchOf_of_no_watch (h : s.plate.watch = none) : s.closeWatchOf id = s := by
  simp [State.closeWatchOf, h]

theorem State.closeWatch_plate (s : State) :
    s.closeWatch.plate.watch = none ∧ s.closeWatch.plate.verifyLeft = none ∧ s.closeWatch.plate.history = [] := ⟨rfl, rfl, rfl⟩

/-! ### A PLACE undone (R142 to R144) -/

theorem State.undoPlace_of_not_place (h : c.action.command ≠ .place) : s.undoPlace c = s := by
  cases ha : c.action with
  | place t => exact absurd (by rw [ha]; rfl) h
  | _ => cases hid : c.caseId <;> simp [State.undoPlace, Outstanding.isPlace, ha, hid]

theorem State.undoPlace_of_place {t : PlaceTarget} (ha : c.action = .place t) (hid : c.caseId = some id) :
    s.undoPlace c = (s.closeWatchOf id).rollback id := by
  simp [State.undoPlace, Outstanding.isPlace, ha, hid]

/-- R142 to R144: from `s` to `t` a PLACE has been undone: its placement rolled back and its watch closed. -/
def State.Undone (s t : State) (c : Outstanding) : Prop :=
  (c.action.command ≠ .place → t.map = s.map ∧ t.plate = s.plate) ∧ (s.plate.watch = none → t.plate = s.plate) ∧
    ∀ tgt id, c.action = .place tgt → c.caseId = some id →
      (∀ q, s.map.prov = some q → q.caseId = id → t.map = s.map.rolledBack s.codeInUse q) ∧
      (∀ w, s.plate.watch = some w → w.caseId = id → t.plate.watch = none ∧ t.plate.verifyLeft = none ∧ t.plate.history = [])

theorem State.undoPlace_undone (s : State) (c : Outstanding) : s.Undone (s.undoPlace c) c := by
  refine ⟨fun h => by simp [State.undoPlace_of_not_place h], fun h => ?_, fun tgt id ha hid => ?_⟩
  · unfold State.undoPlace
    split
    · simp [State.closeWatchOf_of_no_watch h]
    · rfl
  · rw [State.undoPlace_of_place ha hid]
    refine ⟨fun q hq hid => ?_, fun w hw hid => ?_⟩
    · rw [State.rollback_map_of_found (by simpa using hq) hid]
      simp [State.codeInUse]
    · simpa [State.closeWatchOf_of_watch hw hid] using s.closeWatch_plate

theorem State.codeInUse_congr (hj : t.job = s.job) (hs : t.start = s.start) : t.codeInUse = s.codeInUse := by
  simp only [State.codeInUse, hj, hs]

theorem State.Undone.congr {s' t' : State} (h : s.Undone t c) (hmap : s'.map = s.map) (hplate : s'.plate = s.plate)
    (hjob : s'.job = s.job) (hstart : s'.start = s.start) (hmap' : t'.map = t.map) (hplate' : t'.plate = t.plate) :
    s'.Undone t' c := by
  simpa only [State.Undone, hmap, hplate, hmap', hplate', State.codeInUse_congr hjob hstart] using h

@[simp] theorem State.undoPlace_holds (s : State) (c : Outstanding) : (s.undoPlace c).planner.holds = s.planner.holds := by
  unfold State.undoPlace
  split <;> simp

@[simp] theorem State.undoPlace_result (h : s.planner.result = none) (c : Outstanding) : (s.undoPlace c).planner.result = none := by
  unfold State.undoPlace
  split <;> simp [h]

@[simp] theorem State.undoPlace_reportSide (s : State) (c : Outstanding) : (s.undoPlace c).reportSide = s.reportSide :=
  State.reportSide_congr (by simp) (by simp)

/-! ### The case of a command lost (R142) -/

theorem State.loseCommand_eq (s : State) (c : Outstanding) :
    s.loseCommand c =
      ((((s.undoPlace c).removeCase c.source).releaseCase? c.caseId .lost).decreaseClaimed c.line).raise .caseLost := rfl

theorem State.loseCommand_staging (s : State) (c : Outstanding) : (s.loseCommand c).staging = (s.removeCase c.source).staging := by
  simp [State.loseCommand_eq, State.removeCase_staging_congr (t := s.undoPlace c) (s := s) (by simp)]

/-- R142: a lost case leaves the map and the plate as the undoing of its PLACE did. -/
theorem State.loseCommand_undone (s : State) (c : Outstanding) : s.Undone (s.loseCommand c) c :=
  (s.undoPlace_undone c).congr rfl rfl rfl rfl (by simp [State.loseCommand_eq]) (by simp [State.loseCommand_eq])

theorem State.loseCommand_events (s : State) (c : Outstanding) : (s.loseCommand c).events = (s.raise .caseLost).events := by
  rw [State.loseCommand_eq]
  exact State.raise_events_congr (by simp) (by simp) .caseLost

theorem State.loseCommand_released (s : State) (c : Outstanding) : s.Released (s.loseCommand c) c.caseId 4 :=
  (((s.undoPlace c).removeCase c.source).releaseCaseOpt_released c.caseId .lost).congr (by simp) (by simp [State.loseCommand_eq])

theorem State.loseCommand_uncounted (s : State) (c : Outstanding) : s.Uncounted (s.loseCommand c) c.line :=
  ((((s.undoPlace c).removeCase c.source).releaseCase? c.caseId .lost).decreaseClaimed_uncounted c.line).congr (by simp)
    (by simp [State.loseCommand_eq])

@[simp] theorem State.loseCommand_holds (s : State) (c : Outstanding) : (s.loseCommand c).planner.holds = s.planner.holds := by
  simp [State.loseCommand_eq]

@[simp] theorem State.loseCommand_result (h : s.planner.result = none) (c : Outstanding) :
    (s.loseCommand c).planner.result = none := by
  simp [State.loseCommand_eq, h]

/-! ### A gripper case lost (R142) -/

theorem State.loseGripper_staging (s : State) (g : Gripper) : (s.loseGripper g).staging = { s.staging with gripper := none } := by
  simp [State.loseGripper, Staging.without]

theorem State.loseGripper_events (s : State) (g : Gripper) : (s.loseGripper g).events = (s.raise .caseLost).events :=
  State.raise_events_congr (by simp) (by simp) .caseLost

theorem State.loseGripper_released (s : State) (g : Gripper) : s.Released (s.loseGripper g) g.held.caseId 4 :=
  (((s.setStaging (s.staging.without .gripper)).toldLeft .gripper).releaseCaseOpt_released g.held.caseId .lost).congr rfl
    (by simp [State.loseGripper])

theorem State.loseGripper_uncounted (s : State) (g : Gripper) : s.Uncounted (s.loseGripper g) g.held.line :=
  ((((s.setStaging (s.staging.without .gripper)).toldLeft .gripper).releaseCase? g.held.caseId .lost).decreaseClaimed_uncounted
    g.held.line).congr (by simp) (by simp [State.loseGripper])

@[simp] theorem State.loseGripper_holds (s : State) (g : Gripper) :
    (s.loseGripper g).planner.holds = s.planner.holds ∧ (s.loseGripper g).planner.result = s.planner.result := by
  simp [State.loseGripper]

/-! ### A watched case that did not land (R157, R159) -/

/-- R158, R159: an orphaned watch closes with NOT LANDED as its case is reported put down. -/
def State.notLanded (s : State) (w : Watch) : State :=
  ((((s.closeWatch.rollback w.caseId).releaseCase w.caseId .lost).decreaseClaimed w.line).raise .notLanded).raise .caseLost

theorem State.plateDone_of_orphaned (h : s.plate.watch = some w) (ho : w.orphaned = true) : s.plateDone w.caseId = s.notLanded w := by
  simp only [State.plateDone, h, ne_eq, not_true_eq_false, if_false, ho, if_true]
  rfl

theorem State.plateDone_of_standing (h : s.plate.watch = some w) (ho : w.orphaned = false) :
    s.plateDone w.caseId = s.setPlate { s.plate with
      watch := some { w with phase := .settling, doneAt := some s.plate.clock }, verifyLeft := some 2000, restart := true } := by
  simp only [State.plateDone, h, ne_eq, not_true_eq_false, if_false, ho, Bool.false_eq_true, verifyTime]

@[simp] theorem State.notLanded_frame (s : State) (w : Watch) :
    (s.notLanded w).start = s.start ∧ (s.notLanded w).travel = s.travel ∧ (s.notLanded w).divert = s.divert ∧
      (s.notLanded w).staging = s.staging ∧ (s.notLanded w).arm = s.arm ∧ (s.notLanded w).plate = s.closeWatch.plate ∧
      (s.notLanded w).pins = s.pins ∧ (s.notLanded w).pending = s.pending ∧ (s.notLanded w).planner.holds = s.planner.holds := by
  simp [State.notLanded]

@[simp] theorem State.notLanded_result (h : s.planner.result = none) (w : Watch) : (s.notLanded w).planner.result = none := by
  simp [State.notLanded, h]

theorem State.notLanded_events (s : State) (w : Watch) : (s.notLanded w).events = ((s.raise .notLanded).raise .caseLost).events :=
  State.raise_events_congr (by simp) (State.raise_events_congr (by simp) (by simp) _) _

theorem State.notLanded_released (s : State) (w : Watch) : s.Released (s.notLanded w) (some w.caseId) 4 :=
  ((s.closeWatch.rollback w.caseId).releaseCaseOpt_released (some w.caseId) .lost).congr (State.reportSide_congr (by simp) (by simp))
    (by simp [State.notLanded, State.releaseCase?])

theorem State.notLanded_uncounted (s : State) (w : Watch) : s.Uncounted (s.notLanded w) w.line :=
  (((s.closeWatch.rollback w.caseId).releaseCase w.caseId .lost).decreaseClaimed_uncounted w.line).congr (by simp)
    (by simp [State.notLanded])

end Sys2Proof.Machine
end

section
/-! SUPPORT. A FAULT by port state (R141 to R143), and what a command that ends leaves of the port, the planner and the other blocks. -/

namespace Sys2Proof.Machine

variable {s t u : State} {c : Outstanding} {tag : Byte} {d : FaultDisposition} {n : BitVec 16} {place : Source} {r : CaseRecord}

/-! ### The end of a command (R135) -/

@[simp] theorem State.clearCmd_arm (s : State) : s.clearCmd.arm = { s.arm with cmd := none } := rfl

@[simp] theorem State.clearCmd_reportSide (s : State) : s.clearCmd.reportSide = s.reportSide := rfl

theorem State.setProgress_arm (h : s.arm.cmd = some c) (p : Progress) :
    (s.setProgress p).arm = { s.arm with cmd := some { c with progress := p } } := by
  simp [State.setProgress, h]

/-- R135: from `u` to `t` the outstanding command has become `cmd`, and the rest of the port, the hold-reason set and the blocks that no
settlement writes are as they were. -/
structure State.LeavesCommand (u t : State) (cmd : Option Outstanding) : Prop where
  arm : t.arm = { u.arm with cmd := cmd }
  holds : t.planner.holds = u.planner.holds
  result : u.planner.result = none → t.planner.result = none
  blocks : t.start = u.start ∧ t.travel = u.travel ∧ t.divert = u.divert ∧ t.pins = u.pins ∧ t.pending = u.pending

/-- R143, R144: from `u` to `t` the case of a command has ended in the gripper: it waits there by `d`, and a PLACE is undone. -/
structure State.TakenBack (u t : State) (c : Outstanding) (place : Source) (r : CaseRecord) (d : GripDisposition) : Prop where
  leaves : u.LeavesCommand t none
  undone : u.Undone t c
  job : t.job = u.job
  events : t.events = u.events
  staging : t.staging = { u.staging.without place with
    gripper := some { held := { r with mark := none }, command := none, target := 0, disposition := d } }

theorem State.takenBack_of_undo (h : u.commandCase c.source = some (place, r)) (d : GripDisposition) :
    u.TakenBack ((u.undoPlace c).holdInGripper c.source d).clearCmd c place r d where
  leaves := ⟨by simp, by simp, fun h => by simp [h], by simp⟩
  undone := (u.undoPlace_undone c).congr rfl rfl rfl rfl (by simp) (by simp)
  job := by simp
  events := by simp
  staging := by
    have hcase : (u.undoPlace c).commandCase c.source = some (place, r) := (State.commandCase_congr (by simp) _).trans h
    simp [State.holdInGripper_staging hcase]

/-- R143: HELD before the ACCEPT is as HELD after it, where the command's case is the one that is marked. -/
theorem State.takenBack_of_accept (hone : (u.stagedRecords.filter (fun x => x.mark.isSome)).length = 1)
    (h : u.commandCase c.source = some (place, r)) (k : ArmCommand) (target : Nat) (d : GripDisposition) :
    u.TakenBack (((u.acceptMove c.source k target).holdInGripper c.source d).undoPlace c).clearCmd c place r d where
  leaves := ⟨by simp, by simp, fun h => by simp [h], by simp⟩
  undone := (((u.acceptMove c.source k target).holdInGripper c.source d).undoPlace_undone c).congr (by simp) (by simp) (by simp)
    (by simp) rfl rfl
  job := by simp
  events := by simp
  staging := by
    obtain ⟨hcase, hrest⟩ := State.acceptMove_commandCase hone h k target
    simp [State.holdInGripper_staging hcase, Staging.without, hrest]

theorem State.leavesCommand_of_loss (u : State) (c : Outstanding) : u.LeavesCommand (u.loseCommand c).clearCmd none :=
  ⟨by simp, by simp, fun h => by simp [h], by simp⟩

theorem State.completeCommand_setAside {b : Nat} (ha : c.action = .setAside b) : s.completeCommand c = s.moveToBuffer c.source b := by
  simp only [State.completeCommand, ha]

theorem State.completeCommand_ret (ha : c.action = .ret) : s.completeCommand c = s.returnCase c.source := by
  simp only [State.completeCommand, ha]

theorem State.completeCommand_place {tgt : PlaceTarget} {id : CaseId} (ha : c.action = .place tgt) (hid : c.caseId = some id) :
    s.completeCommand c = (s.removeCase c.source).plateDone id := by
  simp only [State.completeCommand, ha, hid]

/-! ### A case put down under an orphaned watch (R159) -/

theorem State.removeCase_notLanded_events (s : State) (src : Source) (w : Watch) :
    ((s.removeCase src).notLanded w).events = ((s.raise .notLanded).raise .caseLost).events := by
  rw [State.notLanded_events]
  exact State.raise_events_congr (by simp) (State.raise_events_congr (by simp) (by simp) .notLanded) .caseLost

theorem State.removeCase_notLanded_released (s : State) (src : Source) (w : Watch) :
    s.Released ((s.removeCase src).notLanded w) (some w.caseId) 4 :=
  ((s.removeCase src).notLanded_released w).congr (by simp) rfl

theorem State.removeCase_notLanded_uncounted (s : State) (src : Source) (w : Watch) :
    s.Uncounted ((s.removeCase src).notLanded w) w.line :=
  ((s.removeCase src).notLanded_uncounted w).congr (by simp) rfl

/-! ### The port stopped (R141) -/

@[simp] theorem State.stopPort_arm (s : State) :
    s.stopPort.arm = { s.arm with port := .stopped, acceptTimer := none, doneTimer := none } := by
  simp [State.stopPort]

theorem State.stopPort_planner (s : State) (h : s.planner.holds.armStopped = false) :
    s.stopPort.planner.holds = { s.planner.holds with armStopped := true } ∧ s.stopPort.planner.result = none := by
  simp [State.stopPort, State.addHold_eq, Holds.put, Holds.has, h]

@[simp] theorem State.stopPort_reportSide (s : State) : s.stopPort.reportSide = s.reportSide :=
  State.reportSide_congr (by simp) (by simp)

@[simp] theorem State.recordFault_arm (s : State) (n : BitVec 16) : (s.recordFault n).arm = { s.arm with lastFault := n } := by
  simp [State.recordFault]

@[simp] theorem State.recordFault_reportSide (s : State) (n : BitVec 16) : (s.recordFault n).reportSide = s.reportSide :=
  State.raise_reportSide _ _

/-- R141: what a FAULT that stops the port leaves, with the command and its case still to be seen to. -/
def State.faulted (s : State) (n : BitVec 16) : State := (s.recordFault n).stopPort

@[simp] theorem State.faulted_frame (s : State) (n : BitVec 16) :
    (s.faulted n).start = s.start ∧ (s.faulted n).job = s.job ∧ (s.faulted n).map = s.map ∧ (s.faulted n).travel = s.travel ∧
      (s.faulted n).divert = s.divert ∧ (s.faulted n).staging = s.staging ∧ (s.faulted n).plate = s.plate ∧
      (s.faulted n).events = (s.recordFault n).events ∧ (s.faulted n).pins = s.pins ∧ (s.faulted n).pending = s.pending ∧
      (s.faulted n).reportSide = s.reportSide := by
  simp [State.faulted]

/-- R141, R142: the port is STOPPED with `cmd` for its command, ARM STOPPED stands, and no result is held. -/
theorem State.LeavesCommand.stopped {cmd : Option Outstanding} (h : (s.faulted n).LeavesCommand t cmd)
    (hfree : s.planner.holds.armStopped = false) :
    t.arm = { s.arm with lastFault := n, port := .stopped, acceptTimer := none, doneTimer := none, cmd := cmd } ∧
      t.planner.holds = { s.planner.holds with armStopped := true } ∧ t.planner.result = none ∧ t.start = s.start ∧
      t.travel = s.travel ∧ t.divert = s.divert ∧ t.pins = s.pins ∧ t.pending = s.pending := by
  obtain ⟨hholds, hresult⟩ := (s.recordFault n).stopPort_planner (by simpa using hfree)
  refine ⟨?_, ?_, h.result hresult, by simpa using h.blocks⟩
  · rw [h.arm]
    simp [State.faulted]
  · rw [h.holds]
    simpa [State.faulted] using hholds

/-! ### A FAULT taken, by port state (R141, R143) -/

theorem State.takeFault_offline (hp : s.arm.port = .offline) : s.takeFault tag d n = s.countUnexpected := by
  simp only [State.takeFault, hp]

theorem State.takeFault_stopped (hp : s.arm.port = .stopped) : s.takeFault tag d n = (s.recordFault n).finish := by
  simp only [State.takeFault, hp]

theorem State.takeFault_other_tag (hp : s.arm.port = .awaitAccept ∨ s.arm.port = .busy) (hc : s.arm.cmd = some c) (ht : c.tag ≠ tag) :
    s.takeFault tag d n = s.countUnexpected := by
  rcases hp with hp | hp <;> simp only [State.takeFault, hp, hc, if_neg ht]

theorem State.takeFault_ready (hp : s.arm.port = .ready) (hc : s.arm.cmd = some c) : s.takeFault tag d n = (s.faulted n).finish := by
  simp only [State.takeFault, hp, hc, State.faulted]

theorem State.takeFault_idle (hp : s.arm.port = .ready) (hc : s.arm.cmd = none) :
    s.takeFault tag d n = ((s.faulted n).faultIdle d).finish := by
  simp only [State.takeFault, hp, hc, State.faulted]

theorem State.takeFault_awaiting (hp : s.arm.port = .awaitAccept) (hc : s.arm.cmd = some c) (ht : c.tag = tag) :
    s.takeFault tag d n = ((s.faulted n).faultAwaiting c d).finish := by
  simp only [State.takeFault, hp, hc, if_pos ht, State.faulted]

/-- R143: AT TARGET in BUSY completes the command as a DONE does. -/
theorem State.takeFault_atTarget (hp : s.arm.port = .busy) (hc : s.arm.cmd = some c) (ht : c.tag = tag) :
    s.takeFault tag .atTarget n = ((s.faulted n).clearCmd.completeCommand c).finish := by
  simp only [State.takeFault, hp, hc, if_pos ht, State.faulted, State.faultBusy]

theorem State.takeFault_busy (hp : s.arm.port = .busy) (hc : s.arm.cmd = some c) (ht : c.tag = tag) :
    s.takeFault tag d n = ((s.faulted n).faultBusy c d).finish := by
  simp only [State.takeFault, hp, hc, if_pos ht, State.faulted]

theorem State.faultIdle_of_keep (h : d ≠ .lost ∨ ∀ g, s.staging.gripper = some g → g.awaiting = false) : s.faultIdle d = s := by
  unfold State.faultIdle
  split
  · next g hg =>
    have hg' : g.awaiting = false := h.elim (absurd rfl) (· g hg)
    simp [hg']
  · rfl

theorem State.faultIdle_of_lost {g : Gripper} (hg : s.staging.gripper = some g) (hw : g.awaiting = true) :
    s.faultIdle .lost = s.loseGripper g := by
  simp [State.faultIdle, hg, hw]

/-- R143: HELD with the command's tag: in BUSY, or in AWAIT ACCEPT where one staged case is marked. -/
theorem State.takeFault_held (hc : s.arm.cmd = some c) (ht : c.tag = tag) (hcase : s.commandCase c.source = some (place, r))
    (hp : s.arm.port = .busy ∨ (s.arm.port = .awaitAccept ∧ (s.stagedRecords.filter (fun x => x.mark.isSome)).length = 1)) :
    ∃ t, s.takeFault tag .held n = t.finish ∧ (s.faulted n).TakenBack t c place r .rePlan := by
  have hcase' : (s.faulted n).commandCase c.source = some (place, r) := (State.commandCase_congr (by simp) _).trans hcase
  rcases hp with hp | ⟨hp, hone⟩
  · exact ⟨_, State.takeFault_busy hp hc ht, State.takenBack_of_undo hcase' .rePlan⟩
  · have hone' : ((s.faulted n).stagedRecords.filter (fun x => x.mark.isSome)).length = 1 := by simpa [State.stagedRecords] using hone
    exact ⟨_, State.takeFault_awaiting hp hc ht, State.takenBack_of_accept hone' hcase' _ _ .rePlan⟩

/-- R143: LOST with the command's tag, be the command accepted or not. -/
theorem State.takeFault_lost (hp : s.arm.port = .busy ∨ s.arm.port = .awaitAccept) (hc : s.arm.cmd = some c) (ht : c.tag = tag) :
    s.takeFault tag .lost n = ((s.faulted n).loseCommand c).clearCmd.finish :=
  hp.elim (fun hp => State.takeFault_busy hp hc ht) (fun hp => State.takeFault_awaiting hp hc ht)

end Sys2Proof.Machine

open Sys2Proof Sys2Proof.Machine

/-- Settles O44: by port state and tag; where the port stops, by the disposition and, AT TARGET, by the command and its watch. -/
theorem faultStopsThePort : Obligations.FaultStopsThePort := by
  intro tag d n s hs run f stopped count stops standing released uncounted
  have hrun : run = .next (s.takeFault tag d n) := exec_faultReport_of_released hs tag d n
  refine ⟨fun hp => ?_, fun cmd hp hc ht => ?_, fun hp => ?_, fun hfree => ?_⟩
  · rw [hrun, State.takeFault_offline hp]
    rfl
  · rw [hrun, State.takeFault_other_tag hp hc ht]
    rfl
  · rw [hrun, State.takeFault_stopped hp]
    rfl
  have hevents : (s.faulted n).events = f.events := by
    simp only [State.faulted_frame]
    rfl
  have stops_of : ∀ {cmd : Option Outstanding} {holds : State → Prop} {t : State}, s.takeFault tag d n = t.finish →
      (s.faulted n).LeavesCommand t cmd → holds t → stops cmd holds :=
    fun ht hleaves hholds => ⟨_, hrun.trans (congrArg _ ht), hholds, hleaves.stopped hfree⟩
  refine ⟨?_, ?_, ?_, ?_, ?_, ?_⟩
  · intro cmd hp hc
    refine stops_of (State.takeFault_ready hp hc) ⟨?_, rfl, id, by simp⟩ (by simp [standing, ← hevents])
    simp [State.faulted, ← hc]
  · intro hp hc hkeep
    have hidle : (s.faulted n).faultIdle d = s.faulted n := State.faultIdle_of_keep (by simpa using hkeep)
    refine stops_of ((State.takeFault_idle hp hc).trans (congrArg _ hidle)) ⟨?_, rfl, id, by simp⟩ (by simp [standing, ← hevents])
    simp [State.faulted, ← hc]
  · rintro g hp hc rfl hg hw
    have hidle : (s.faulted n).faultIdle .lost = (s.faulted n).loseGripper g := State.faultIdle_of_lost (by simpa using hg) hw
    refine stops_of ((State.takeFault_idle hp hc).trans (congrArg _ hidle)) ⟨?_, by simp, fun h => by simp [h], by simp⟩
      ⟨?_, ?_, ?_, ?_, ?_⟩
    · simp [State.faulted, ← hc]
    · simp [State.loseGripper_staging]
    · exact ((s.faulted n).loseGripper_released g).congr (by simp) rfl
    · exact ((s.faulted n).loseGripper_uncounted g).congr (by simp) rfl
    · simpa [f] using ((s.faulted n).loseGripper_events g).trans (State.raise_events_congr (s := f) (by simp [f]) hevents _)
    · simp
  · rintro cmd hp hc ht rfl
    refine stops_of (State.takeFault_awaiting hp hc ht) ⟨?_, rfl, id, by simp [State.faultAwaiting]⟩ ?_
    · exact State.setProgress_arm (by simp [State.faulted, hc]) .unknown
    · simp [standing, State.faultAwaiting, ← hevents]
  · intro cmd place r hp hc ht hplace hr gone undone
    have hcase := State.commandCase_of_place hplace hr
    refine ⟨?_, ?_⟩
    · rintro rfl
      obtain ⟨t, ht', hback⟩ := State.takeFault_held (n := n) hc ht hcase hp
      refine stops_of ht' hback.leaves ⟨?_, ?_, ?_, ?_⟩
      · exact hback.undone.congr (by simp) (by simp) (by simp) (by simp) rfl rfl
      · simpa using hback.job
      · exact hback.events.trans hevents
      · simpa using hback.staging
    · rintro rfl
      have hcase' : (s.faulted n).commandCase cmd.source = some (place, r) := (State.commandCase_congr (by simp) _).trans hcase
      have hend := State.takeFault_lost (n := n) (hp.imp_right And.left) hc ht
      refine stops_of hend ((s.faulted n).leavesCommand_of_loss cmd) ⟨?_, ?_, ?_, ?_, ?_⟩
      · exact ((s.faulted n).loseCommand_undone cmd).congr (by simp) (by simp) (by simp) (by simp) (by simp) (by simp)
      · simp [State.loseCommand_staging, State.removeCase_staging hcase', gone]
      · exact ((s.faulted n).loseCommand_events cmd).trans (State.raise_events_congr (by simp [f]) hevents _)
      · exact ((s.faulted n).loseCommand_released cmd).congr (by simp) rfl
      · exact ((s.faulted n).loseCommand_uncounted cmd).congr (by simp) rfl
  · rintro cmd place r hp hc ht rfl hplace hr gone
    have hcase : (s.faulted n).clearCmd.commandCase cmd.source = some (place, r) :=
      (State.commandCase_congr (by simp) _).trans (State.commandCase_of_place hplace hr)
    have hend := State.takeFault_atTarget (n := n) hp hc ht
    refine ⟨fun b ha => ?_, fun ha => ?_, ?_⟩
    · rw [State.completeCommand_setAside ha] at hend
      refine stops_of hend ⟨by simp, by simp, fun h => by simp [h], by simp⟩
        ⟨?_, by simp, by simp, by simp, by simp [← hevents]⟩
      simp [State.moveToBuffer_staging hcase, gone]
    · rw [State.completeCommand_ret ha] at hend
      refine stops_of hend ⟨by simp, by simp, fun h => by simp [h], by simp⟩ ⟨?_, ?_, ?_, by simp, by simp, by simp [← hevents]⟩
      · simp [State.returnCase_staging hcase, gone]
      · exact (State.returnCase_released hcase).congr (by simp) rfl
      · exact (State.returnCase_uncounted hcase).congr (by simp) rfl
    · rintro tgt _ w ha hid hw rfl
      rw [State.completeCommand_place ha hid] at hend
      have hwatch : ((s.faulted n).clearCmd.removeCase cmd.source).plate.watch = some w := by simpa using hw
      refine ⟨fun ho => ?_, fun ho => ?_⟩
      · rw [State.plateDone_of_standing hwatch ho] at hend
        refine stops_of hend ⟨by simp, by simp, fun h => by simp [h], by simp⟩
          ⟨?_, by simp, by simp, by simp [← hevents], by simp⟩
        simp [State.removeCase_staging hcase, gone]
      · rw [State.plateDone_of_orphaned hwatch ho] at hend
        refine stops_of hend ⟨by simp, by simp, fun h => by simp [h], by simp⟩ ⟨?_, ?_, ?_, ?_, ?_, ?_⟩
        · simp [State.removeCase_staging hcase, gone]
        · simp [State.closeWatch_plate]
        · simp [State.closeWatch_plate]
        · exact ((s.faulted n).clearCmd.removeCase_notLanded_released cmd.source w).congr (by simp) rfl
        · exact ((s.faulted n).clearCmd.removeCase_notLanded_uncounted cmd.source w).congr (by simp) rfl
        · exact ((s.faulted n).clearCmd.removeCase_notLanded_events cmd.source w).trans
            (State.raise_events_congr (by simp [f]) (State.raise_events_congr (by simp [f]) (by simp [← hevents]) _) _)
end

section
/-! SUPPORT. READY with no command to settle (R132, R136, R142): the port opened, and the gripper record compared. -/

namespace Sys2Proof.Machine

variable {s : State} {c : Outstanding} {g : GripperState}

/-! ### The gripper record compared (R132, R136, R142) -/

/-- R136: what follows the port's own part of a READY: the planner told, and the gripper record compared. -/
def State.compared (s : State) : State := s.tellReady.compareGripper

theorem State.takeReady_eq (s : State) (g : GripperState) :
    s.takeReady g = ((s.setArm { s.arm with gripper := g }).readyByPort g).compared.finish := rfl

theorem State.tellReady_of_idle (h : s.arm.cmd = none) : s.tellReady = s.setFlag := by
  simp [State.tellReady, h]

theorem State.compared_of_cmd (h : s.arm.cmd = some c) : s.compared = s := by
  simp [State.compared, State.tellReady, State.compareGripper, h]

/-- R136: the robot and the gripper record agree on whether there is a case. -/
theorem State.compared_of_agree (h : s.arm.cmd = none)
    (hg : (s.arm.gripper = .holding ∧ s.staging.gripper ≠ none) ∨ (s.arm.gripper = .empty ∧ s.staging.gripper = none)) :
    s.compared = s.setFlag := by
  rw [State.compared, State.tellReady_of_idle h]
  rcases hg with ⟨ha, hs⟩ | ⟨ha, hs⟩
  · obtain ⟨x, hx⟩ := Option.ne_none_iff_exists'.mp hs
    simp [State.compareGripper, h, ha, hx]
  · simp [State.compareGripper, h, ha, hs]

/-- R132: the robot holds a case that has no record. -/
theorem State.compared_of_unrecorded (h : s.arm.cmd = none) (ha : s.arm.gripper = .holding) (hs : s.staging.gripper = none) :
    s.compared = s.setFlag.takeInGripper := by
  rw [State.compared, State.tellReady_of_idle h]
  simp [State.compareGripper, h, ha, hs]

/-- R142: the robot holds no case where the record has one that awaits disposition. -/
theorem State.compared_of_missing {x : Gripper} (h : s.arm.cmd = none) (ha : s.arm.gripper = .empty)
    (hs : s.staging.gripper = some x) (hw : x.awaiting = true) : s.compared = s.setFlag.loseGripper x := by
  rw [State.compared, State.tellReady_of_idle h]
  simp [State.compareGripper, h, ha, hs, hw]

/-! ### The port opened (R136) -/

/-- R136: the gripper state noted, and the port READY. -/
def State.opened (s : State) (g : GripperState) : State := s.setArm { s.arm with gripper := g, port := .ready }

theorem State.takeReady_of_open (hp : s.arm.port = .offline ∨ s.arm.port = .ready) (g : GripperState) :
    s.takeReady g = (s.opened g).compared.finish := by
  rw [State.takeReady_eq]
  rcases hp with hp | hp <;> simp [State.readyByPort, State.setPort, hp, State.setArm, State.opened]

/-- R136: the port leaves STOPPED, and ARM STOPPED its set. -/
def State.reopened (s : State) (g : GripperState) : State := (s.opened g).removeHold .armStopped

theorem State.takeReady_of_stopped (hp : s.arm.port = .stopped) (hc : s.arm.cmd = none) (g : GripperState) :
    s.takeReady g = (s.reopened g).compared.finish := by
  rw [State.takeReady_eq]
  simp [State.readyByPort, hp, hc, State.reopened, State.opened, State.setPort, State.setArm]

theorem State.takeReady_of_resolving (hp : s.arm.port = .stopped) (hc : s.arm.cmd = some c) (hu : c.progress ≠ .unknown)
    (g : GripperState) : s.takeReady g = (s.reopened g).compared.finish := by
  rw [State.takeReady_eq]
  simp [State.readyByPort, hp, hc, hu, State.reopened, State.opened, State.setPort, State.setArm]

theorem State.takeReady_of_unknown (hp : s.arm.port = .stopped) (hc : s.arm.cmd = some c) (hu : c.progress = .unknown)
    (g : GripperState) : s.takeReady g = ((s.reopened g).settleUnknown c g).compared.finish := by
  rw [State.takeReady_eq]
  simp [State.readyByPort, hp, hc, hu, State.reopened, State.opened, State.setPort, State.setArm]

@[simp] theorem State.reopened_frame (s : State) (g : GripperState) :
    (s.reopened g).start = s.start ∧ (s.reopened g).bus = s.bus ∧ (s.reopened g).claim = s.claim ∧ (s.reopened g).job = s.job ∧
      (s.reopened g).map = s.map ∧ (s.reopened g).travel = s.travel ∧ (s.reopened g).divert = s.divert ∧
      (s.reopened g).staging = s.staging ∧ (s.reopened g).arm = { s.arm with gripper := g, port := .ready } ∧
      (s.reopened g).plate = s.plate ∧ (s.reopened g).events = s.events ∧ (s.reopened g).pins = s.pins ∧
      (s.reopened g).pending = s.pending := by
  simp [State.reopened, State.opened]

@[simp] theorem State.reopened_reportSide (s : State) (g : GripperState) : (s.reopened g).reportSide = s.reportSide :=
  State.reportSide_congr (by simp) (by simp)

/-- R54, R59, R136: the port opened from STOPPED; the end of ARM STOPPED sets the planner's flag where it was the last reason. -/
theorem State.reopened_eq (s : State) (g : GripperState) :
    s.reopened g = { s with
      arm := { s.arm with gripper := g, port := .ready }
      planner := { s.planner with
        holds := { s.planner.holds with armStopped := false }
        flag := s.planner.flag || (s.planner.holds.armStopped && !({ s.planner.holds with armStopped := false } : Holds).any) } } := by
  rw [State.reopened, State.removeHold_eq]
  rfl

theorem State.reopened_holds (s : State) (g : GripperState) :
    (s.reopened g).planner.holds = { s.planner.holds with armStopped := false } := by
  rw [State.reopened_eq]

/-- R136: with the planner told, it does not matter which reason was the last. -/
theorem State.reopened_setFlag (s : State) (g : GripperState) :
    (s.reopened g).setFlag = { s with
      arm := { s.arm with gripper := g, port := .ready }
      planner := { s.planner with flag := true, holds := { s.planner.holds with armStopped := false } } } := by
  rw [State.reopened_eq]
  rfl

/-- R136: READY in STOPPED with no command is as in READY with ARM STOPPED gone before. -/
theorem State.takeReady_of_stopped_idle (hp : s.arm.port = .stopped) (hc : s.arm.cmd = none) (g : GripperState) :
    s.takeReady g = ({ s with
      arm := { s.arm with port := .ready }
      planner := { s.planner with holds := { s.planner.holds with armStopped := false } } } : State).takeReady g := by
  rw [State.takeReady_of_stopped hp hc, State.compared, State.tellReady_of_idle (by simpa using hc), State.reopened_setFlag,
    State.takeReady_of_open (.inr rfl), State.compared, State.tellReady_of_idle (by exact hc)]
  rfl

/-! ### A command on its way (R136, R140) -/

/-- R171: a CELL STATUS says nothing of the arm port, so that an event finds the port as it leaves it. -/
theorem State.raise_setArm (s : State) (a : ArmPort) (k : EventKind) : (s.setArm a).raise k = (s.raise k).setArm a := by
  have raised : ∀ cls, (s.setArm a).raiseAs cls k = (s.raiseAs cls k).setArm a := by
    intro cls
    cases cls with
    | prompt =>
      by_cases hl : s.events.latched.getLsbD k.number = true
      · simp [State.raiseAs, hl]
        rfl
      · cases hh : s.events.holdoff <;>
          simp [State.raiseAs, hl, State.promptStatus, State.countEvent, State.latchEvent, hh] <;> rfl
    | _ => rfl
  unfold State.raise
  split
  · next h => rw [if_pos (by simpa using h)]
  · next h => rw [if_neg (by simpa using h)]; exact raised _

/-- R144, R145: a command is settled by what it is, not by how far it had come. -/
theorem State.settleUnknown_progress (s : State) (c : Outstanding) (p : Progress) (g : GripperState) :
    s.settleUnknown { c with progress := p } g = s.settleUnknown c g := rfl

theorem State.reopened_of_free (h : s.planner.holds.armStopped = false) (g : GripperState) :
    s.reopened g = s.opened g := by
  simp [State.reopened, State.opened, State.removeHold, Holds.has, h]

/-- R136: READY in AWAIT ACCEPT and BUSY is as a timeout and a READY in STOPPED after it, but for ARM STOPPED. -/
theorem State.takeReady_of_sent (hp : s.arm.port = .awaitAccept ∨ s.arm.port = .busy) (hc : s.arm.cmd = some c)
    (hfree : s.planner.holds.armStopped = false) (g : GripperState) :
    s.takeReady g = ((s.setArm { s.arm with
      port := .stopped, acceptTimer := none, doneTimer := none, cmd := some { c with progress := .unknown } }).raise
        .armTimeout).takeReady g := by
  have hunknown : s.takeReady g = (((s.raise .armTimeout).setArm { s.arm with
      gripper := g, port := .ready, acceptTimer := none, doneTimer := none, cmd := some { c with progress := .unknown } }).settleUnknown
        c g).compared.finish := by
    rw [State.takeReady_eq, ← State.raise_setArm]
    rcases hp with hp | hp <;> simp [State.readyByPort, State.setProgress, hp, hc, State.setArm]
  rw [hunknown, State.takeReady_of_unknown (c := { c with progress := .unknown }) (by simp) (by simp) rfl,
    State.settleUnknown_progress, State.raise_setArm,
    State.reopened_of_free (by simpa using hfree)]
  rfl

end Sys2Proof.Machine
end

section
/-! SUPPORT. An UNKNOWN command settled at a READY (R144, R145, R160): its case held, put down, lost, or the plate asked for evidence. -/

namespace Sys2Proof.Machine

variable {s t u x : State} {c : Outstanding} {g : GripperState} {place : Source} {r : CaseRecord} {id : CaseId} {q : Provisional}

/-! ### What a settlement leaves (R136) -/

/-- R136: the port is READY with `cmd` for its command, and ARM STOPPED is gone. -/
theorem State.LeavesCommand.reopened {cmd : Option Outstanding} (h : (s.reopened g).LeavesCommand t cmd) :
    t.arm = { s.arm with gripper := g, port := .ready, cmd := cmd } ∧
      t.planner.holds = { s.planner.holds with armStopped := false } ∧ t.start = s.start ∧ t.travel = s.travel ∧
      t.divert = s.divert ∧ t.pins = s.pins ∧ t.pending = s.pending := by
  refine ⟨?_, ?_, by simpa using h.blocks⟩
  · simpa using h.arm
  · rw [h.holds, State.reopened_holds]

/-- R136: from `u` to `t` the command has ended, and the planner has been told. -/
structure State.Ended (u t : State) : Prop where
  leaves : u.LeavesCommand t none
  flag : t.planner.flag = true

theorem State.LeavesCommand.told (h : u.LeavesCommand t none) : u.Ended t.setFlag := ⟨⟨h.arm, h.holds, h.result, h.blocks⟩, rfl⟩

/-- R136: a command settled by an empty gripper leaves the planner to be told. -/
theorem State.LeavesCommand.compared_empty (h : u.LeavesCommand t none) (he : u.arm.gripper = .empty) (hg : t.staging.gripper = none) :
    t.compared = t.setFlag :=
  State.compared_of_agree (by rw [h.arm]) (.inr ⟨by rw [h.arm]; exact he, hg⟩)

/-- R145: a command's case out of staging leaves an empty gripper record empty. -/
theorem Staging.without_gripper {y : Staging} (h : y.gripper = none ∨ place = .gripper) : (y.without place).gripper = none := by
  cases place with
  | gripper => rfl
  | lane => simpa [Staging.without] using h
  | buffer b => by_cases hb : b = 0 <;> simpa [Staging.without, Staging.setBuffer, hb] using h

@[simp] theorem Staging.setBuffer_gripper (y : Staging) (b : Nat) (r : Option CaseRecord) : (y.setBuffer b r).gripper = y.gripper := by
  unfold Staging.setBuffer
  split <;> rfl

/-- R145: a second removal leaves an empty gripper record empty. -/
theorem State.removeCase_gripper (h : s.staging.gripper = none) (src : Source) : (s.removeCase src).staging.gripper = none := by
  cases hcase : s.commandCase src with
  | none => rwa [(State.moves_of_absent hcase 0 .none).1]
  | some p =>
    rw [State.removeCase_staging (place := p.1) (r := p.2) hcase]
    exact Staging.without_gripper (.inl h)

/-! ### A case set aside with nothing else to claim (R86, R129) -/

theorem State.laneFell_of_no_sightings (h : s.claim.sightings = []) : s.laneFell = s := by
  simp [State.laneFell, State.reexamine, h]

theorem State.moveToBuffer_of_no_sightings {src : Source} (h : s.commandCase src = some (place, r)) (hs : s.claim.sightings = [])
    (b : Nat) :
    s.moveToBuffer src b = (s.setStaging ((s.staging.without place).setBuffer b (some { r with mark := none }))).setFlag := by
  simp only [State.moveToBuffer, h, State.toldLeft]
  split
  · rw [State.laneFell_of_no_sightings (by simpa using hs)]
  · rfl

/-! ### A PLACE whose case is out of staging (R145, R160) -/

/-- R145: from `u` to `x` the case of a PLACE has left staging, and nothing else that its loss would read has changed. -/
structure State.CaseOut (u x : State) (place : Source) : Prop where
  leaves : u.LeavesCommand x.clearCmd none
  staging : x.staging = u.staging.without place
  job : x.job = u.job
  map : x.map = u.map
  events : x.events = u.events
  watch : x.plate.watch = u.plate.watch
  reports : x.reportSide = u.reportSide

/-- R145: the command's case leaves staging, and the command is RESOLVING. -/
def State.resolving (u : State) (c : Outstanding) : State := (u.removeCase c.source).setProgress .resolving

@[simp] theorem State.setProgress_reportSide (s : State) (p : Progress) : (s.setProgress p).reportSide = s.reportSide := rfl

@[simp] theorem State.setPlate_reportSide (s : State) (p : Plate) : (s.setPlate p).reportSide = s.reportSide := rfl

@[simp] theorem State.resolving_frame (u : State) (c : Outstanding) :
    (u.resolving c).start = u.start ∧ (u.resolving c).job = u.job ∧ (u.resolving c).map = u.map ∧ (u.resolving c).travel = u.travel ∧
      (u.resolving c).divert = u.divert ∧ (u.resolving c).staging = (u.removeCase c.source).staging ∧
      (u.resolving c).plate = u.plate ∧ (u.resolving c).events = u.events ∧ (u.resolving c).pins = u.pins ∧
      (u.resolving c).pending = u.pending ∧ (u.resolving c).planner.holds = u.planner.holds ∧
      (u.resolving c).planner.result = u.planner.result ∧ (u.resolving c).reportSide = u.reportSide := by
  simp [State.resolving]

theorem State.resolving_arm (hc : u.arm.cmd = some c) :
    (u.resolving c).arm = { u.arm with cmd := some { c with progress := .resolving } } := by
  simp [State.resolving, State.setProgress, hc]

/-- R145, R160: the case is out, whatever has become of the evidence request. -/
theorem State.caseOut_resolving (hc : u.arm.cmd = some c) (h : u.commandCase c.source = some (place, r)) {p : Plate}
    (hp : p.watch = u.plate.watch) : u.CaseOut ((u.resolving c).setPlate p) place where
  leaves := ⟨by simp [State.resolving_arm hc], by simp, fun h => by simp [h], by simp⟩
  staging := by simp [State.removeCase_staging h]
  job := by simp
  map := by simp
  events := by simp
  watch := hp
  reports := by simp

/-- R145: the case of the PLACE is declared lost, once it is out of staging. -/
def State.declaredLost (x : State) (c : Outstanding) : State := ((x.loseCommand c).clearCmd).setFlag

theorem State.CaseOut.leavesCommand (h : u.CaseOut x place) (c : Outstanding) : u.LeavesCommand (x.declaredLost c) none where
  arm := by simpa [State.declaredLost] using h.leaves.arm
  holds := by simpa [State.declaredLost] using h.leaves.holds
  result := fun hu => by
    have hx : x.planner.result = none := h.leaves.result hu
    simp [State.declaredLost, hx]
  blocks := by simpa [State.declaredLost] using h.leaves.blocks

theorem State.CaseOut.released (h : u.CaseOut x place) (c : Outstanding) : u.Released (x.declaredLost c) c.caseId 4 :=
  (x.loseCommand_released c).congr h.reports.symm rfl

theorem State.CaseOut.uncounted (h : u.CaseOut x place) (c : Outstanding) : u.Uncounted (x.declaredLost c) c.line :=
  (x.loseCommand_uncounted c).congr h.job.symm rfl

theorem State.CaseOut.caseLost (h : u.CaseOut x place) (c : Outstanding) : (x.declaredLost c).events = (u.raise .caseLost).events :=
  (x.loseCommand_events c).trans (State.raise_events_congr (t := x) h.leaves.blocks.1 h.events .caseLost)

/-- R159: the watch of the lost case is closed. -/
theorem State.CaseOut.watch_closed (h : u.CaseOut x place) {tgt : PlaceTarget} (ha : c.action = .place tgt) (hid : c.caseId = some id)
    {w : Watch} (hw : u.plate.watch = some w) (hwid : w.caseId = id) :
    (x.declaredLost c).plate.watch = none ∧ (x.declaredLost c).plate.verifyLeft = none := by
  obtain ⟨-, -, hundone⟩ := x.loseCommand_undone c
  obtain ⟨hwatch, hverify, -⟩ := (hundone tgt id ha hid).2 w (h.watch.trans hw) hwid
  exact ⟨hwatch, hverify⟩

theorem State.CaseOut.map_rolledBack (h : u.CaseOut x place) {tgt : PlaceTarget} (ha : c.action = .place tgt)
    (hid : c.caseId = some id) (hq : u.map.prov = some q) (hqid : q.caseId = id) :
    (x.declaredLost c).map = u.map.rolledBack u.codeInUse q := by
  obtain ⟨-, -, hundone⟩ := x.loseCommand_undone c
  have hmap := (hundone tgt id ha hid).1 q (h.map ▸ hq) hqid
  rwa [h.map, State.codeInUse_congr h.job h.leaves.blocks.1] at hmap

/-- R33, R145: with no placement of the case in the map there is none to roll back. -/
theorem State.CaseOut.map_kept (h : u.CaseOut x place) {tgt : PlaceTarget} (ha : c.action = .place tgt) (hid : c.caseId = some id)
    (hq : ∀ q, u.map.prov = some q → q.caseId ≠ id) : (x.declaredLost c).map = u.map := by
  have hundo : (x.undoPlace c).map = x.map := by
    rw [State.undoPlace_of_place ha hid, State.rollback_of_absent (by simpa [h.map] using hq)]
    simp
  simpa [State.declaredLost, State.loseCommand_eq, h.map] using hundo

theorem State.CaseOut.staging_kept (h : u.CaseOut x place) (hcase : u.commandCase c.source = some (place, r))
    (hone : (u.stagedRecords.filter (fun y => y.mark.isSome)).length = 1) :
    (x.declaredLost c).staging = u.staging.without place := by
  have hstaging : (x.declaredLost c).staging = (x.removeCase c.source).staging := x.loseCommand_staging c
  rw [hstaging, State.removeCase_staging_again hone hcase h.staging, h.staging]

theorem State.CaseOut.gripper_empty (h : u.CaseOut x place) (hg : u.staging.gripper = none ∨ place = .gripper) (c : Outstanding) :
    (x.declaredLost c).staging.gripper = none := by
  have hstaging : (x.declaredLost c).staging = (x.removeCase c.source).staging := x.loseCommand_staging c
  rw [hstaging]
  exact State.removeCase_gripper (h.staging ▸ Staging.without_gripper hg) _

/-- R145: from `u` to `t` a PLACE has ended with its case declared lost. -/
structure State.PlaceLost (u t : State) (c : Outstanding) (place : Source) : Prop where
  ended : u.Ended t
  staging : (u.stagedRecords.filter (fun y => y.mark.isSome)).length = 1 → t.staging = u.staging.without place
  watch : ∀ w, u.plate.watch = some w → c.caseId = some w.caseId → t.plate.watch = none ∧ t.plate.verifyLeft = none
  released : u.Released t c.caseId 4
  uncounted : u.Uncounted t c.line
  events : t.events = (u.raise .caseLost).events

/-! ### Evidence (R145, R160) -/

/-- R160: the evidence request of a placement `p`, from the load `r0` on; it stops the disturbance timings (log 28). -/
def Plate.askedFor (y : Plate) (p : Provisional) (r0 : Int) : Plate :=
  { y with evidence := some { caseId := p.caseId, m := p.m, r0 := r0, askedAt := y.clock }, evidenceLeft := some 2000, restart := true,
           disturbFrom := none, clearFrom := none }

/-- R160: a plate that can answer is asked: from the open load of the case's watch on, or from the map's mass without one. -/
theorem State.askEvidence_of_able (ht : s.plate.state = .tared)
    (hw : ∀ w, s.plate.watch = some w → w.caseId = q.caseId → w.orphaned = false) (c : Outstanding) :
    ∃ r0 : Int, s.askEvidence c q = s.setPlate (s.plate.askedFor q r0) ∧
      (∀ w, s.plate.watch = some w → w.caseId = q.caseId → r0 = w.open0) ∧
      ((∀ w, ¬ (s.plate.watch = some w ∧ w.caseId = q.caseId)) → r0 = s.map.mTot) := by
  cases hwatch : s.plate.watch with
  | none => exact ⟨s.map.mTot, by simp [State.askEvidence, hwatch, ht, Plate.askedFor, verifyTime], by simp, by simp⟩
  | some w =>
    by_cases hid : w.caseId = q.caseId
    · have ho := hw w hwatch hid
      refine ⟨w.open0, by simp [State.askEvidence, hwatch, ht, hid, ho, Plate.askedFor, verifyTime], ?_, ?_⟩
      · rintro _ ⟨⟩ -
        rfl
      · exact fun h => absurd ⟨rfl, hid⟩ (h w)
    · refine ⟨s.map.mTot, by simp [State.askEvidence, hwatch, ht, hid, Plate.askedFor, verifyTime], ?_, fun _ => rfl⟩
      rintro _ ⟨⟩ hid'
      exact absurd hid' hid

/-- R160: a plate that cannot answer counts as NOT GAINED at once. -/
theorem State.askEvidence_of_unable (hid : c.caseId = some id)
    (h : s.plate.state ≠ .tared ∨ ∃ w, s.plate.watch = some w ∧ w.caseId = q.caseId ∧ w.orphaned = true) :
    s.askEvidence c q = (s.setPlate { s.plate with evidence := none, evidenceLeft := none }).declaredLost c := by
  have hanswer : s.askEvidence c q = s.answerEvidence c false := by
    rcases h with ht | ⟨w, hw, hwid, ho⟩
    · simp [State.askEvidence, ht]
    · simp [State.askEvidence, hw, hwid, ho]
  simp [hanswer, State.answerEvidence, hid, State.declaredLost]

/-! ### An empty gripper, by command (R145) -/

theorem State.settleEmpty_setAside {b : Nat} (ha : c.action = .setAside b) : s.settleEmpty c = (s.moveToBuffer c.source b).clearCmd := by
  simp only [State.settleEmpty, ha]

theorem State.settleEmpty_ret (ha : c.action = .ret) : s.settleEmpty c = (s.returnCase c.source).clearCmd := by
  simp only [State.settleEmpty, ha]

theorem State.settleEmpty_unplaced {tgt : PlaceTarget} (ha : c.action = .place tgt) (hid : c.caseId = some id)
    (hq : ∀ q, s.map.prov = some q → q.caseId ≠ id) : s.settleEmpty c = (s.resolving c).declaredLost c := by
  have hprov : (s.resolving c).provOf id = none := State.provOf_eq_none (by simpa using hq)
  simp only [State.resolving] at hprov
  simp only [State.settleEmpty, ha, hid, hprov]
  rfl

theorem State.settleEmpty_placed {tgt : PlaceTarget} (ha : c.action = .place tgt) (hid : c.caseId = some id)
    (hq : s.map.prov = some q) (hqid : q.caseId = id) : s.settleEmpty c = (s.resolving c).askEvidence c q := by
  have hprov : (s.resolving c).provOf id = some q := State.provOf_of_found (by simpa using hq) hqid
  simp only [State.resolving] at hprov
  simp only [State.settleEmpty, ha, hid, hprov]
  rfl

/-! ### The command settled, and the planner told (R144, R145) -/

section
variable (hcase : u.commandCase c.source = some (place, r))
include hcase

theorem State.settled_held (hh : u.arm.gripper = .holding) :
    (u.settleHeld c).compared.planner.flag = true ∧ u.TakenBack (u.settleHeld c).compared c place r .ret := by
  have hback : u.TakenBack (u.settleHeld c) c place r .ret := State.takenBack_of_undo hcase .ret
  have hagree : (u.settleHeld c).compared = (u.settleHeld c).setFlag :=
    State.compared_of_agree rfl (.inl ⟨by rw [hback.leaves.arm]; exact hh, by simp [hback.staging]⟩)
  rw [hagree]
  exact ⟨rfl, hback.leaves.told.leaves, hback.undone.congr rfl rfl rfl rfl rfl rfl, hback.job, hback.events, hback.staging⟩

variable (he : u.arm.gripper = .empty) (hg : u.staging.gripper = none ∨ place = .gripper)
include he hg

theorem State.settled_setAside {b : Nat} (ha : c.action = .setAside b) :
    u.Ended (u.settleEmpty c).compared ∧
      (u.settleEmpty c).compared.staging = (u.staging.without place).setBuffer b (some { r with mark := none }) ∧
      (u.settleEmpty c).compared.job = u.job ∧ (u.settleEmpty c).compared.map = u.map ∧
      (u.settleEmpty c).compared.plate = u.plate ∧ (u.settleEmpty c).compared.events = u.events := by
  have hleaves : u.LeavesCommand (u.moveToBuffer c.source b).clearCmd none := ⟨by simp, by simp, fun h => by simp [h], by simp⟩
  have hgrip : (u.moveToBuffer c.source b).clearCmd.staging.gripper = none := by
    simpa [State.moveToBuffer_staging hcase] using Staging.without_gripper hg
  rw [State.settleEmpty_setAside ha, hleaves.compared_empty he hgrip]
  exact ⟨hleaves.told, State.moveToBuffer_staging hcase b, by simp⟩

theorem State.settled_ret (ha : c.action = .ret) :
    u.Ended (u.settleEmpty c).compared ∧ (u.settleEmpty c).compared.staging = u.staging.without place ∧
      u.Released (u.settleEmpty c).compared r.caseId 1 ∧ u.Uncounted (u.settleEmpty c).compared r.line ∧
      (u.settleEmpty c).compared.map = u.map ∧ (u.settleEmpty c).compared.plate = u.plate ∧
      (u.settleEmpty c).compared.events = u.events := by
  have hleaves : u.LeavesCommand (u.returnCase c.source).clearCmd none := ⟨by simp, by simp, fun h => by simp [h], by simp⟩
  have hgrip : (u.returnCase c.source).clearCmd.staging.gripper = none := by
    simpa [State.returnCase_staging hcase] using Staging.without_gripper hg
  rw [State.settleEmpty_ret ha, hleaves.compared_empty he hgrip]
  exact ⟨hleaves.told, State.returnCase_staging hcase, (State.returnCase_released hcase).congr rfl rfl,
    (State.returnCase_uncounted hcase).congr rfl rfl, by simp⟩

variable {tgt : PlaceTarget} (ha : c.action = .place tgt)
include ha

theorem State.CaseOut.placeLost (hx : u.CaseOut x place) (hsettle : u.settleEmpty c = x.declaredLost c) :
    u.PlaceLost (u.settleEmpty c).compared c place ∧ (u.settleEmpty c).compared.map = (x.declaredLost c).map := by
  have hleaves := hx.leavesCommand c
  rw [hsettle, hleaves.compared_empty he (hx.gripper_empty hg c)]
  exact ⟨⟨hleaves.told, hx.staging_kept hcase, fun w hw hwid => hx.watch_closed ha hwid hw rfl, (hx.released c).congr rfl rfl,
    (hx.uncounted c).congr rfl rfl, hx.caseLost c⟩, rfl⟩

variable (hid : c.caseId = some id) (hc : u.arm.cmd = some c)
include hid hc

/-- R145: a PLACE with no placement in the map is lost at once. -/
theorem State.settled_unplaced (hq : ∀ q, u.map.prov = some q → q.caseId ≠ id) :
    u.PlaceLost (u.settleEmpty c).compared c place ∧ (u.settleEmpty c).compared.map = u.map := by
  have hx := State.caseOut_resolving hc hcase (p := (u.resolving c).plate) (by simp)
  obtain ⟨hlost, hmap⟩ := hx.placeLost hcase he hg ha (State.settleEmpty_unplaced ha hid hq)
  exact ⟨hlost, hmap.trans (hx.map_kept ha hid hq)⟩

variable (hq : u.map.prov = some q) (hqid : q.caseId = id)
include hq hqid

/-- R145, R160: a PLACE whose evidence the plate cannot give is lost at once, and rolled back. -/
theorem State.settled_unable
    (hunable : u.plate.state ≠ .tared ∨ ∃ w, u.plate.watch = some w ∧ w.caseId = id ∧ w.orphaned = true) :
    u.PlaceLost (u.settleEmpty c).compared c place ∧ (u.settleEmpty c).compared.map = u.map.rolledBack u.codeInUse q := by
  have hx := State.caseOut_resolving hc hcase (p := { (u.resolving c).plate with evidence := none, evidenceLeft := none }) (by simp)
  have hsettle := (State.settleEmpty_placed ha hid hq hqid).trans
    (State.askEvidence_of_unable (s := u.resolving c) hid (by simpa [hqid] using hunable))
  obtain ⟨hlost, hmap⟩ := hx.placeLost hcase he hg ha hsettle
  exact ⟨hlost, hmap.trans (hx.map_rolledBack ha hid hq hqid)⟩

omit he hg in
/-- R145, R160: a PLACE whose evidence the plate can give is RESOLVING, and the plate is asked. -/
theorem State.settled_asked (ht : u.plate.state = .tared)
    (hw : ∀ w, u.plate.watch = some w → w.caseId = id → w.orphaned = false) :
    u.LeavesCommand (u.settleEmpty c).compared (some { c with progress := .resolving }) ∧
      (u.settleEmpty c).compared.staging = u.staging.without place ∧ (u.settleEmpty c).compared.map = u.map ∧
      (u.settleEmpty c).compared.job = u.job ∧ (u.settleEmpty c).compared.events = u.events ∧
      ∃ r0 : Int, (u.settleEmpty c).compared.plate = u.plate.askedFor q r0 ∧
        (∀ w, u.plate.watch = some w → w.caseId = id → r0 = w.open0) ∧
        ((∀ w, ¬ (u.plate.watch = some w ∧ w.caseId = id)) → r0 = u.map.mTot) := by
  obtain ⟨r0, hask, hopen, htotal⟩ := State.askEvidence_of_able (s := u.resolving c) (q := q) (by simpa using ht)
    (by simpa [hqid] using hw) c
  have hleaves : u.LeavesCommand ((u.resolving c).setPlate ((u.resolving c).plate.askedFor q r0))
      (some { c with progress := .resolving }) :=
    ⟨by simp [State.resolving_arm hc], by simp, fun h => by simp [h], by simp⟩
  rw [State.settleEmpty_placed ha hid hq hqid, hask, State.compared_of_cmd (by rw [hleaves.arm])]
  refine ⟨hleaves, ?_, by simp, by simp, by simp, r0, by simp, by simpa [hqid] using hopen, by simpa [hqid] using htotal⟩
  simp [State.removeCase_staging hcase]

end

/-! ### A SET ASIDE settled with no sighting to claim (R86, R145) -/

theorem State.settled_setAside_of_no_sightings {b : Nat} {rest : List CaseRecord} (hsrc : c.source = .lane) (ha : c.action = .setAside b)
    (hb : 1 ≤ b) (hlane : s.staging.lane = r :: rest) (hm : r.mark ≠ none) (hg : s.staging.gripper = none)
    (hs : s.claim.sightings = []) :
    ((s.reopened .empty).settleEmpty c).compared = { s with
      arm := { s.arm with gripper := .empty, port := .ready, cmd := none }
      planner := { s.planner with flag := true, holds := { s.planner.holds with armStopped := false } }
      staging := { s.staging with lane := rest, buffer := s.staging.buffer.set (b - 1) (some { r with mark := none }) } } := by
  have hat : (s.reopened .empty).caseAt .lane = some r := State.caseAt_lane (by simpa using hlane)
  have hcase : (s.reopened .empty).commandCase c.source = some (.lane, r) := by
    rw [hsrc]
    exact State.commandCase_of_place (by simp [State.commandPlace, State.markedAt_of_caseAt hat hm]) hat
  have hflag : ∀ y, (((s.reopened .empty).setStaging y).setFlag.clearCmd).setFlag =
      ((s.reopened .empty).setFlag.setStaging y).clearCmd := fun y => rfl
  rw [State.settleEmpty_setAside ha, State.moveToBuffer_of_no_sightings hcase (by simpa using hs),
    State.compared_of_agree rfl (.inr ⟨by simp, by simpa [Staging.without] using hg⟩), hflag, State.reopened_setFlag]
  simp only [State.reopened_frame, Staging.without, Staging.setBuffer_of_pos _ hb, hlane, List.tail_cons]
  rfl

end Sys2Proof.Machine

open Sys2Proof Sys2Proof.Machine

/-- Settles O41: by port state and command; an UNKNOWN command by the gripper state, by its action, and for a PLACE by the map and the
plate. -/
theorem readyOpensThePort : Obligations.ReadyOpensThePort := by
  intro s hs arm told freed
  refine ⟨fun hp hc => ?_, fun hp hc hg => ?_, ?_, fun g hp hc => ?_, fun g cmd hp hc => ?_, fun g cmd hp hc hu hstop => ?_,
    fun g cmd hp hc hfree => ?_, ?_⟩
  · have hready : ∀ g, exec (.ready g) s = .next (s.opened g).compared.finish := fun g => by
      rw [exec_ready_of_released hs, State.takeReady_of_open hp]
    refine ⟨fun hg => ?_, fun hg => ?_, fun hg => ?_, fun x hx hw => ?_⟩
    · rw [hready, State.compared_of_agree (s := s.opened .empty) hc (.inr ⟨rfl, hg⟩)]
      rfl
    · rw [hready, State.compared_of_agree (s := s.opened .holding) hc (.inl ⟨rfl, hg⟩)]
      rfl
    · rw [hready, State.compared_of_unrecorded (s := s.opened .holding) hc rfl hg]
      rfl
    · rw [hready, State.compared_of_missing (s := s.opened .empty) hc rfl hx hw]
      refine ⟨_, rfl, State.loseGripper_staging .., ?_, ?_, ?_⟩
      · simp [State.opened, arm]
      · exact (State.loseGripper_events ..).trans (State.raise_events_congr (by simp [State.opened]) (by simp [State.opened]) .caseLost)
      · simp [State.opened]
  · rw [exec_ready_of_released hs, State.takeReady_of_stopped hp hc,
      State.compared_of_agree (by simpa using hc) (.inr (by simpa using hg)), State.reopened_setFlag]
  · intro cmd b r rest hp hc hu ha hb hsrc hlane hm hg hsight
    rw [exec_ready_of_released hs, State.takeReady_of_unknown hp hc hu, State.settleUnknown,
      State.settled_setAside_of_no_sightings hsrc ha hb hlane hm hg hsight]
  · rw [exec_ready_of_released hs, State.takeReady_of_stopped_idle hp hc]
    exact (exec_ready_of_released (by exact hs) g).symm
  · rw [exec_ready_of_released hs, State.takeReady_of_open (.inr hp), State.compared_of_cmd (s := s.opened g) hc]
    rfl
  · rw [exec_ready_of_released hs, State.takeReady_of_resolving hp hc hu, State.compared_of_cmd (by simpa using hc),
      State.reopened_eq, hstop]
    rfl
  · rw [exec_ready_of_released hs, State.takeReady_of_sent hp hc hfree]
    exact (exec_ready_of_released (by simpa using hs) g).symm
  · intro cmd place r hp hc hu hplace hr gone settles ended released uncounted
    have hcase : ∀ g, (s.reopened g).commandCase cmd.source = some (place, r) := fun g =>
      (State.commandCase_congr (by simp) _).trans (State.commandCase_of_place hplace hr)
    have settles_of : ∀ {g : GripperState} {left : Option Outstanding} {holds : State → Prop},
        (s.reopened g).LeavesCommand ((s.reopened g).settleUnknown cmd g).compared left →
        holds ((s.reopened g).settleUnknown cmd g).compared → settles g holds := by
      intro g left holds hleaves hholds
      refine ⟨_, ?_, hholds, hleaves.reopened.2⟩
      rw [exec_ready_of_released hs, State.takeReady_of_unknown hp hc hu]
    have ended_of : ∀ {t : State}, (s.reopened .empty).Ended t → ended .empty t := fun h => ⟨h.leaves.reopened.1, h.flag⟩
    refine ⟨?_, fun hg => ?_⟩
    · obtain ⟨hflag, hback⟩ := State.settled_held (hcase .holding) (by simp)
      obtain ⟨hother, -, hplaced⟩ := hback.undone.congr (s' := s) (by simp) (by simp) (by simp) (by simp) rfl rfl
      refine settles_of hback.leaves ⟨⟨hback.leaves.reopened.1, hflag⟩, ?_, ?_, ?_, hother, hplaced⟩
      · exact hback.job.trans (by simp)
      · exact hback.events.trans (by simp)
      · exact hback.staging.trans (by simp [gone])
    have hempty : (s.reopened .empty).arm.gripper = .empty := by simp
    have hgrip : (s.reopened .empty).staging.gripper = none ∨ place = .gripper := by simpa using hg
    have hcmd : (s.reopened .empty).arm.cmd = some cmd := by simpa using hc
    refine ⟨fun b ha => ?_, fun ha => ?_, ?_⟩
    · obtain ⟨hended, hrest⟩ := State.settled_setAside (hcase .empty) hempty hgrip ha
      simp only [State.reopened_frame] at hrest
      exact settles_of hended.leaves ⟨ended_of hended, hrest⟩
    · obtain ⟨hended, hstaging, hreleased, huncounted, hrest⟩ := State.settled_ret (hcase .empty) hempty hgrip ha
      simp only [State.reopened_frame] at hstaging hrest
      exact settles_of hended.leaves
        ⟨ended_of hended, hstaging, hreleased.congr (by simp) rfl, huncounted.congr (by simp) rfl, hrest⟩
    · intro tgt id ha hid mine lost
      have lost_of : ∀ {mp : StackMap},
          (s.reopened .empty).PlaceLost ((s.reopened .empty).settleEmpty cmd).compared cmd place →
            ((s.reopened .empty).settleEmpty cmd).compared.map = mp → lost mp := by
        intro mp hlost hmap
        refine settles_of hlost.ended.leaves ⟨ended_of hlost.ended, hmap, fun hone => ?_, fun w hw => ?_, ?_, ?_, ?_⟩
        · exact (hlost.staging (by simpa [State.stagedRecords] using hone)).trans (by simp [gone])
        · exact hlost.watch w (by simpa using hw.1) (hid.trans (congrArg some hw.2.symm))
        · exact hid ▸ hlost.released.congr (by simp) rfl
        · exact hlost.uncounted.congr (by simp) rfl
        · exact hlost.events.trans (State.raise_events_congr (by simp) (by simp) .caseLost)
      refine ⟨fun hq => ?_, fun q hq hqid => ⟨fun hunable => ?_, fun ht hw => ?_⟩⟩
      · obtain ⟨hlost, hmap⟩ := State.settled_unplaced (hcase .empty) hempty hgrip ha hid hcmd (by simpa using hq)
        exact lost_of hlost (hmap.trans (by simp))
      · obtain ⟨hlost, hmap⟩ := State.settled_unable (hcase .empty) hempty hgrip ha hid hcmd (by simpa using hq) hqid
          (by simpa [mine, and_assoc] using hunable)
        exact lost_of hlost (hmap.trans (by simp [State.codeInUse]))
      · obtain ⟨hleaves, hstaging, hmap, hjob, hevents, r0, hplate, hopen, htotal⟩ :=
          State.settled_asked (hcase .empty) ha hid hcmd (by simpa using hq) hqid (by simpa using ht) (by simpa [mine] using hw)
        simp only [State.reopened_frame] at hstaging hmap hjob hevents hplate hopen htotal
        rw [Plate.askedFor, hqid] at hplate
        exact settles_of hleaves
          ⟨hleaves.reopened.1, hstaging, hmap, hjob, hevents, r0, hplate, fun w hw => hopen w hw.1 hw.2, htotal⟩
end

section
/-! SUPPORT. Reset and the end of STARTING (R149, R172, R175 to R177): the straps read, CONFIG DEFAULTED, the first scan, the way on. -/

namespace Sys2Proof.Machine

variable {s : State} {memory : Option (List Byte)} {scan : List RawCount}

/-! ### The straps (R175) -/

/-- R175: the straps give the station number 1 to 30, else none. -/
theorem stationOf_eq (straps : BitVec 5) :
    stationOf straps = if 1 ≤ straps.toNat ∧ straps.toNat ≤ 30 then some straps else none := by
  have hreserved : (straps = 0 ∨ straps = 31) ↔ ¬(1 ≤ straps.toNat ∧ straps.toNat ≤ 30) := by bv_omega
  simp only [stationOf, hreserved, ite_not]

/-! ### CONFIG DEFAULTED (R168, R176) -/

/-- R168, R176: CONFIG DEFAULTED is a deferred event of the default table: it is counted and latched, and asks for no status. -/
theorem State.raiseDefaulted_of_defaulted (h : Params.defaulted memory = true) :
    s.raiseDefaulted memory = (s.countEvent .configDefaulted).latchEvent .configDefaulted := if_pos h

theorem State.raiseDefaulted_of_not_defaulted (h : ¬Params.defaulted memory = true) : s.raiseDefaulted memory = s := if_neg h

theorem State.raiseDefaulted_events (s : State) (memory : Option (List Byte)) :
    (s.raiseDefaulted memory).events = { s.events with
      latched := if Params.defaulted memory then s.events.latched ||| 0x800000 else s.events.latched
      counters := if Params.defaulted memory then s.events.counters.modify 23 sat8 else s.events.counters } := by
  by_cases h : Params.defaulted memory = true
  · simp only [State.raiseDefaulted_of_defaulted h, h, if_true]
    rfl
  · simp only [State.raiseDefaulted_of_not_defaulted h, h]
    rfl

/-- R168: a deferred event reaches the event unit alone. -/
@[simp] theorem State.raiseDefaulted_frame (s : State) (memory : Option (List Byte)) :
    (s.raiseDefaulted memory).start = s.start ∧ (s.raiseDefaulted memory).bus = s.bus ∧ (s.raiseDefaulted memory).claim = s.claim ∧
      (s.raiseDefaulted memory).job = s.job ∧ (s.raiseDefaulted memory).map = s.map ∧
      (s.raiseDefaulted memory).planner = s.planner ∧ (s.raiseDefaulted memory).travel = s.travel ∧
      (s.raiseDefaulted memory).divert = s.divert ∧ (s.raiseDefaulted memory).staging = s.staging ∧
      (s.raiseDefaulted memory).arm = s.arm ∧ (s.raiseDefaulted memory).plate = s.plate ∧
      (s.raiseDefaulted memory).pins = s.pins ∧ (s.raiseDefaulted memory).pending = s.pending := by
  by_cases h : Params.defaulted memory = true
  · simp [State.raiseDefaulted_of_defaulted h]
  · simp [State.raiseDefaulted_of_not_defaulted h]

/-! ### The first scan (R149, R151) -/

/-- R151: a channel whose filters stand at their baselines bears nothing. -/
theorem channelMass_self (gain : Nat) (f8 : Int) (weight : Nat) (f : Int) : channelMass gain f8 f8 weight f f = 0 := by
  simp [channelMass]

theorem channelMasses_self (cfg : Params) (f : List Int) : channelMasses cfg f f = List.replicate 8 0 :=
  calc channelMasses cfg f f
    _ = (List.range 8).map (fun _ => 0) := List.map_congr_left fun _ _ => channelMass_self ..
    _ = List.replicate 8 0 := rfl

/-- R149, R151: filters set to their baselines weigh 0, so the load and both its references are 0. -/
theorem Plate.firstScan_eq (p : Plate) (cfg : Params) (scan : List RawCount) (present : Bool) :
    p.firstScan cfg scan present = { p with
      f := rawCounts scan, b := rawCounts scan, masses := List.replicate 8 0, load := 0, ref := 0, quietRef := 0
      state := if present then .uncertain else .absent
      restart := false, runStart := p.clock, sampleLeft := some 400 } := by
  simp only [Plate.firstScan, Plate.weigh, channelMasses_self]
  rfl

/-! ### The way out of STARTING (R172, R177) -/

theorem State.leaveStarting_of_numbered {n : Station} (h : s.start.station = some n) :
    s.leaveStarting = s.setStart { s.start with state := .joining, join := some (2 * s.start.cfg.statusPeriod) } := by
  simp only [State.leaveStarting, h]

theorem State.leaveStarting_of_unnumbered (h : s.start.station = none) :
    s.leaveStarting =
      (s.setStart { s.start with state := .unnumbered }).setEvents { s.events with status := some s.start.cfg.statusPeriod } := by
  simp only [State.leaveStarting, h]

@[simp] theorem State.leaveStarting_frame (s : State) :
    s.leaveStarting.bus = s.bus ∧ s.leaveStarting.claim = s.claim ∧ s.leaveStarting.job = s.job ∧ s.leaveStarting.map = s.map ∧
      s.leaveStarting.planner = s.planner ∧ s.leaveStarting.travel = s.travel ∧ s.leaveStarting.divert = s.divert ∧
      s.leaveStarting.staging = s.staging ∧ s.leaveStarting.arm = s.arm ∧ s.leaveStarting.plate = s.plate ∧
      s.leaveStarting.pins = s.pins ∧ s.leaveStarting.pending = s.pending := by
  cases h : s.start.station with
  | some n => simp [State.leaveStarting_of_numbered h]
  | none => simp [State.leaveStarting_of_unnumbered h]

/-- R172: the status timer starts at the end of STARTING where the part is UNNUMBERED, and nowhere else. -/
theorem State.leaveStarting_events (s : State) :
    s.leaveStarting.events = { s.events with
      status := if s.start.station = none then some s.start.cfg.statusPeriod else s.events.status } := by
  cases h : s.start.station with
  | some n => simp [State.leaveStarting_of_numbered h]
  | none => simp [State.leaveStarting_of_unnumbered h]

/-! ### The end of the read (R176, R177) -/

theorem exec_configurationReadEnd_of_starting (hs : s.start.state = .starting) (hh : s.start.held = false) :
    exec (.configurationReadEnd memory scan) s =
      .next ((s.raiseDefaulted memory).configure (Params.read memory) scan).finish :=
  congrArg goes (if_pos ⟨hs, hh⟩)

/-- R176, R177: the line is listened to at the rate read, the speed window runs, and the bridge carries the first scan. -/
theorem State.configure_line (s : State) (cfg : Params) (scan : List RawCount) :
    (s.configure cfg scan).bus = { s.bus with mode := .listen, rate := some cfg.bitRate, receiving := false } ∧
      (s.configure cfg scan).travel = { s.travel with windowLeft := some 20 } ∧
      (s.configure cfg scan).pins = { s.pins with bridge := scan } := by
  simp [State.configure, speedWindowTime]

/-- R149, R166: the plate after the first scan, but for the sampling mode, which follows from the state that STARTING is left for. -/
theorem State.configure_plate (s : State) (cfg : Params) (scan : List RawCount) :
    ∃ mode, (s.configure cfg scan).plate = { s.plate.firstScan cfg scan s.pins.palletPresent with mode := mode } := by
  simp [State.configure]

theorem State.configure_events (s : State) (cfg : Params) (scan : List RawCount) :
    (s.configure cfg scan).events = { s.events with
      status := if s.start.station = none then some cfg.statusPeriod else s.events.status } :=
  State.leaveStarting_events _

theorem State.configure_start_of_numbered {n : Station} (h : s.start.station = some n) (cfg : Params) (scan : List RawCount) :
    (s.configure cfg scan).start = { s.start with cfg := cfg, state := .joining, join := some (2 * cfg.statusPeriod) } :=
  congrArg State.start (State.leaveStarting_of_numbered (n := n) (by exact h))

theorem State.configure_start_of_unnumbered (h : s.start.station = none) (cfg : Params) (scan : List RawCount) :
    (s.configure cfg scan).start = { s.start with cfg := cfg, state := .unnumbered } :=
  congrArg State.start (State.leaveStarting_of_unnumbered (by exact h))

@[simp] theorem State.configure_frame (s : State) (cfg : Params) (scan : List RawCount) :
    (s.configure cfg scan).job = s.job ∧ (s.configure cfg scan).claim = s.claim ∧ (s.configure cfg scan).map = s.map ∧
      (s.configure cfg scan).planner = s.planner ∧ (s.configure cfg scan).divert = s.divert ∧
      (s.configure cfg scan).staging = s.staging ∧ (s.configure cfg scan).arm = s.arm ∧
      (s.configure cfg scan).pending = s.pending := by
  simp [State.configure]

end Sys2Proof.Machine

open Sys2Proof Sys2Proof.Machine

/-- Settles O5: both restarts are the one start-up, whose station number is the straps' reading; the assertion holds the same blocks. -/
theorem resetRestartsThePart : Obligations.ResetRestartsThePart := by
  intro straps s station t
  have hstart : s.startUp straps = t := by
    rw [State.startUp, stationOf_eq]
    rfl
  exact ⟨congrArg goes hstart, congrArg goes hstart, rfl⟩

/-- Settles O8: CONFIG DEFAULTED first, then each block as the end of the read leaves it, the start state by the station number. -/
theorem configurationReadEnds : Obligations.ConfigurationReadEnds := by
  intro memory scan s hs hh
  refine ⟨_, exec_configurationReadEnd_of_starting hs hh, ?_⟩
  obtain ⟨hbus, htravel, hpins⟩ := (s.raiseDefaulted memory).configure_line (Params.read memory) scan
  obtain ⟨mode, hplate⟩ := (s.raiseDefaulted memory).configure_plate (Params.read memory) scan
  simp only [State.raiseDefaulted_frame, Plate.firstScan_eq] at hbus htravel hpins hplate
  refine ⟨?_, hbus, htravel, hpins, ?_⟩
  · cases h : s.start.station with
    | some n => simpa using State.configure_start_of_numbered (s := s.raiseDefaulted memory) (by simpa using h) _ scan
    | none => simpa using State.configure_start_of_unnumbered (s := s.raiseDefaulted memory) (by simpa using h) _ scan
  · simp [hplate, State.configure_events, State.raiseDefaulted_events]
end
